-- ==== Sys2Proof/Word.lean ====
section
/-! DEFINITION. The widths of RK05-XB: one byte on either port, the 16-bit host transaction word and budgets, and the
two LFSR registers (00_scope.md R6, 20_memory.md R51). -/

namespace Sys2Proof

/-- One register number or one data byte (20_memory.md R51). -/
abbrev Byte := BitVec 8

/-- The 16-bit host transaction word, and the 16-bit budgets and wait counter (30_encoding.md R70, 10_state.md R26, R39). -/
abbrev Word := BitVec 16

/-- The LFSR16 register, `W16` = 16 bits (00_scope.md R6, 10_state.md R31). -/
abbrev Gen16 := BitVec 16

/-- The LFSR31 register, `W31` = 31 bits (00_scope.md R6, 10_state.md R32). -/
abbrev Gen31 := BitVec 31

end Sys2Proof
end

