-- ==== Sys2Proof/Config.lean ====
section
/-! DEFINITION. The implementation parameters of 00_scope.md R6 with the values R6 gives this hardware, the OPEN ones as
constants without a body, and the free answers of the controller. -/

namespace Sys2Proof.Config

/-- The tap bits of LFSR16, feeding bit 15 (R6, 40_lfsr.md R80). -/
def taps16 : List Nat := [0, 2, 3, 5]

/-- The tap bits of LFSR31, feeding bit 30 (R6, 40_lfsr.md R81). -/
def taps31 : List Nat := [0, 3, 7, 11, 15, 19, 23, 27]

/-- `LFSR16_SEED`, OPEN in R6: any 16-bit value. No body: nothing can be proved of its value (log entry 7). -/
opaque lfsr16Seed : Gen16

/-- `LFSR31_SEED`, OPEN in R6: any 31-bit value. No body (log entry 7). -/
opaque lfsr31Seed : Gen31

/-- `TICK_PERIOD` in microseconds, OPEN in R6 (reference 1 ms) and "never read by any rule": nothing in this package
reads it (log entry 8). -/
opaque tickPeriodMicros : Nat

/-- A free value: the byte the controller answers to its device transaction number `n` (counted over the whole life of
the machine) with register `r` and data `d`, where the state lists no answer for it. "The byte p a device transaction
returns is chosen by the controller, and a model takes it as a draw" (20_memory.md R62; log entry 3). -/
opaque freeReply (n : Nat) (r d : Byte) : Byte

/-- `T1_RESET`, `T2_RESET` and `T3_RESET` (R6, 10_state.md R26). -/
def t1Reset : Word := 10
def t2Reset : Word := 1000
def t3Reset : Word := 1000

/-- `HOST_RO_THRESHOLD`: the first read-only host register number (R6, 20_memory.md R68). -/
def hostRoThreshold : Byte := 0x80

/-! The device register numbers (R6, 42_device_shim.md R130). -/

def devCyl : Byte := 0x00
def devHead : Byte := 0x01
def devSector : Byte := 0x02
def devCommand : Byte := 0x03
def devStatus1 : Byte := 0x80
def devStatus2 : Byte := 0x81

/-! The controller command bytes (R6, 42_device_shim.md R131). -/

def dcSeek : Byte := 0x01
def dcRead : Byte := 0x02
def dcWrite : Byte := 0x04
def dcClear : Byte := 0x08
def dcRestore : Byte := 0x10

/-! The Status1 bit positions (R6, 42_device_shim.md R133). -/

def s1AddrInvalid : Nat := 0
def s1WriteCheck : Nat := 1
def s1FileReady : Nat := 2
def s1HighDensity : Nat := 3
def s1DcLow : Nat := 4
def s1SeekIncomplete : Nat := 5
def s1AddrAccepted : Nat := 6
def s1WriteProtect : Nat := 7

/-! The Status2 bit positions (R6, 42_device_shim.md R133). -/

def s2RwsReady : Nat := 0
def s2Rip : Nat := 6
def s2Wip : Nat := 7

end Sys2Proof.Config
end

