-- ==== Sys2Proof/Syntax.lean ====
section
/-! DEFINITION. The instructions of RK05-XB: one constructor per row of spec/opcode_table.json, a row being one encoding
of the host transaction word (00_scope.md R2, 30_encoding.md R70). Beside them the names of the writable host registers. -/

namespace Sys2Proof

/-- The implemented writable host registers, 0x00 to 0x12 (10_state.md, section 2). -/
inductive HReg where
  | cmd
  | cylLo
  | cylHi
  | head
  | sector
  | t1Lo
  | t1Hi
  | t2Lo
  | t2Hi
  | t3Lo
  | t3Hi
  | seed16Lo
  | seed16Hi
  | seed31B0
  | seed31B1
  | seed31B2
  | seed31B3
  | devReg
  | devData
deriving DecidableEq, Repr

/-- One host transaction. The data byte of a transaction that ignores it (`x`) is kept, so that a word and its
instruction determine each other. -/
inductive Instr where
  /-- NOP, CMD code 0x00 (43_control.md R140). -/
  | nop
  /-- ADV16 n, CMD code 0x10 | (n-1), n = 1..16 as a 5-bit value (40_lfsr.md R84, 30_encoding.md R73). -/
  | adv16 (n : BitVec 5)
  /-- ADV31 n, CMD code 0x20 | (n-1), n = 1..16 as a 5-bit value (40_lfsr.md R85, 30_encoding.md R73). -/
  | adv31 (n : BitVec 5)
  /-- BYTE16_8, CMD code 0x30 (40_lfsr.md R86). -/
  | byte16_8
  /-- BYTE16_16, CMD code 0x31 (40_lfsr.md R87). -/
  | byte16_16
  /-- BYTE31_8, CMD code 0x32 (40_lfsr.md R88). -/
  | byte31_8
  /-- BYTE31_16, CMD code 0x33 (40_lfsr.md R89). -/
  | byte31_16
  /-- SEED16, CMD code 0x38 (40_lfsr.md R92). -/
  | seed16
  /-- SEED31, CMD code 0x39 (40_lfsr.md R93). -/
  | seed31
  /-- XSEEK, CMD code 0x40 (41_handshake.md R110). -/
  | xseek
  /-- XREAD, CMD code 0x41 (41_handshake.md R111). -/
  | xread
  /-- XWRITE, CMD code 0x42 (41_handshake.md R112). -/
  | xwrite
  /-- ACK, CMD code 0x48 (41_handshake.md R115). -/
  | ack
  /-- READYCHK, CMD code 0x50 (41_handshake.md R116). -/
  | readychk
  /-- DEVX, CMD code 0x60 (42_device_shim.md R134). -/
  | devx
  /-- SRST, CMD code 0xFF (43_control.md R142). -/
  | srst
  /-- A reserved command code `d` (43_control.md R141, 30_encoding.md R75). -/
  | reservedCmd (d : Byte)
  /-- Exchange of host register 0x01, CYL_LO (20_memory.md R53). -/
  | wrCylLo (v : Byte)
  /-- Exchange of host register 0x02, CYL_HI (20_memory.md R53). -/
  | wrCylHi (v : Byte)
  /-- Exchange of host register 0x03, HEAD (20_memory.md R53). -/
  | wrHead (v : Byte)
  /-- Exchange of host register 0x04, SECTOR (20_memory.md R53). -/
  | wrSector (v : Byte)
  /-- Exchange of host register 0x05, T1[7:0] (20_memory.md R53). -/
  | wrT1Lo (v : Byte)
  /-- Exchange of host register 0x06, T1[15:8] (20_memory.md R53). -/
  | wrT1Hi (v : Byte)
  /-- Exchange of host register 0x07, T2[7:0] (20_memory.md R53). -/
  | wrT2Lo (v : Byte)
  /-- Exchange of host register 0x08, T2[15:8] (20_memory.md R53). -/
  | wrT2Hi (v : Byte)
  /-- Exchange of host register 0x09, T3[7:0] (20_memory.md R53). -/
  | wrT3Lo (v : Byte)
  /-- Exchange of host register 0x0A, T3[15:8] (20_memory.md R53). -/
  | wrT3Hi (v : Byte)
  /-- Exchange of host register 0x0B, SEED16[7:0] (20_memory.md R53). -/
  | wrSeed16Lo (v : Byte)
  /-- Exchange of host register 0x0C, SEED16[15:8] (20_memory.md R53). -/
  | wrSeed16Hi (v : Byte)
  /-- Exchange of host register 0x0D, SEED31[7:0] (20_memory.md R53). -/
  | wrSeed31B0 (v : Byte)
  /-- Exchange of host register 0x0E, SEED31[15:8] (20_memory.md R53). -/
  | wrSeed31B1 (v : Byte)
  /-- Exchange of host register 0x0F, SEED31[23:16] (20_memory.md R53). -/
  | wrSeed31B2 (v : Byte)
  /-- Exchange of host register 0x10, SEED31[31:24] (20_memory.md R53). -/
  | wrSeed31B3 (v : Byte)
  /-- Exchange of host register 0x11, DEVREG (20_memory.md R53). -/
  | wrDevReg (v : Byte)
  /-- Exchange of host register 0x12, DEVDATA (20_memory.md R53). -/
  | wrDevData (v : Byte)
  /-- A host transaction to a reserved writable number `r`, 0x13 to 0x7F (20_memory.md R55). -/
  | wrReserved (r x : Byte)
  /-- A host transaction to a read-only number `r`, 0x80 to 0xFF (20_memory.md R54). -/
  | rd (r x : Byte)
deriving DecidableEq, Repr

end Sys2Proof
end

