-- ==== Sys2Proof/WellFormed.lean ====
section
/-! DEFINITION. Which instructions some host transaction word encodes (30_encoding.md R70 to R73, R75). -/

namespace Sys2Proof

/-- The command codes that are not reserved: the code column of the table of 30_encoding.md R72. -/
def definedCodes : List Byte :=
  [0x00, 0x10, 0x11, 0x12, 0x13, 0x14, 0x15, 0x16, 0x17, 0x18, 0x19, 0x1A, 0x1B, 0x1C, 0x1D, 0x1E, 0x1F] ++
  [0x20, 0x21, 0x22, 0x23, 0x24, 0x25, 0x26, 0x27, 0x28, 0x29, 0x2A, 0x2B, 0x2C, 0x2D, 0x2E, 0x2F] ++
  [0x30, 0x31, 0x32, 0x33, 0x38, 0x39, 0x40, 0x41, 0x42, 0x48, 0x50, 0x60, 0xFF]

/-- A command code that 30_encoding.md R72 does not list (R75). -/
def reservedCode (d : Byte) : Bool := !definedCodes.contains d

/-- A writable register number with no storage behind it, 0x13 to 0x7F (20_memory.md R55). -/
def reservedWritable (r : Byte) : Bool := decide (0x13 ≤ r) && decide (r ≤ 0x7F)

/-- A number of the read-only half of the host register space (20_memory.md R68). -/
def readOnlyNumber (r : Byte) : Bool := decide (Config.hostRoThreshold ≤ r)

/-- An advance count that a command code can carry: 1 to 16, "never 0" (30_encoding.md R73). -/
def advanceCount (n : BitVec 5) : Bool := decide (1 ≤ n) && decide (n ≤ 16)

/-- The instructions that some word encodes. -/
def Instr.wellFormed : Instr → Bool
  | .adv16 n => advanceCount n
  | .adv31 n => advanceCount n
  | .reservedCmd d => reservedCode d
  | .wrReserved r _ => reservedWritable r
  | .rd r _ => readOnlyNumber r
  | .nop => true
  | .byte16_8 => true
  | .byte16_16 => true
  | .byte31_8 => true
  | .byte31_16 => true
  | .seed16 => true
  | .seed31 => true
  | .xseek => true
  | .xread => true
  | .xwrite => true
  | .ack => true
  | .readychk => true
  | .devx => true
  | .srst => true
  | .wrCylLo _ => true
  | .wrCylHi _ => true
  | .wrHead _ => true
  | .wrSector _ => true
  | .wrT1Lo _ => true
  | .wrT1Hi _ => true
  | .wrT2Lo _ => true
  | .wrT2Hi _ => true
  | .wrT3Lo _ => true
  | .wrT3Hi _ => true
  | .wrSeed16Lo _ => true
  | .wrSeed16Hi _ => true
  | .wrSeed31B0 _ => true
  | .wrSeed31B1 _ => true
  | .wrSeed31B2 _ => true
  | .wrSeed31B3 _ => true
  | .wrDevReg _ => true
  | .wrDevData _ => true

end Sys2Proof
end

