-- ==== Sys2Proof/Decode.lean ====
section
/-! DEFINITION. Decoding a host transaction (30_encoding.md R70 to R76) and, after it, encoding an instruction. -/

namespace Sys2Proof

/-- The register half of a host transaction word, `X[15:8]` (R70). -/
def regByte (x : Word) : Byte := x.extractLsb' 8 8

/-- The data half of a host transaction word, `X[7:0]` (R70). -/
def dataByte (x : Word) : Byte := x.extractLsb' 0 8

/-- The host transaction word `X = {r, d}` (R70). -/
def hostWord (r d : Byte) : Word := r ++ d

/-- The number of a writable host register (10_state.md, section 4). -/
def HReg.number : HReg → Byte
  | .cmd => 0x00
  | .cylLo => 0x01
  | .cylHi => 0x02
  | .head => 0x03
  | .sector => 0x04
  | .t1Lo => 0x05
  | .t1Hi => 0x06
  | .t2Lo => 0x07
  | .t2Hi => 0x08
  | .t3Lo => 0x09
  | .t3Hi => 0x0A
  | .seed16Lo => 0x0B
  | .seed16Hi => 0x0C
  | .seed31B0 => 0x0D
  | .seed31B1 => 0x0E
  | .seed31B2 => 0x0F
  | .seed31B3 => 0x10
  | .devReg => 0x11
  | .devData => 0x12

/-- The implemented writable register with number `r`, if there is one (10_state.md, section 4; R30: none above 0x12). -/
def HReg.ofNumber? (r : Byte) : Option HReg :=
  if r = 0x00 then some .cmd
  else if r = 0x01 then some .cylLo
  else if r = 0x02 then some .cylHi
  else if r = 0x03 then some .head
  else if r = 0x04 then some .sector
  else if r = 0x05 then some .t1Lo
  else if r = 0x06 then some .t1Hi
  else if r = 0x07 then some .t2Lo
  else if r = 0x08 then some .t2Hi
  else if r = 0x09 then some .t3Lo
  else if r = 0x0A then some .t3Hi
  else if r = 0x0B then some .seed16Lo
  else if r = 0x0C then some .seed16Hi
  else if r = 0x0D then some .seed31B0
  else if r = 0x0E then some .seed31B1
  else if r = 0x0F then some .seed31B2
  else if r = 0x10 then some .seed31B3
  else if r = 0x11 then some .devReg
  else if r = 0x12 then some .devData
  else none

/-- The group of a command code, `d[7:4]` (R71). -/
def codeGroup (d : Byte) : BitVec 4 := d.extractLsb' 4 4

/-- The advance count of a command code, `zext_5(d[3:0]) + 1` (R73). -/
def codeCount (d : Byte) : BitVec 5 := (d.extractLsb' 0 4).zeroExtend 5 + 1

/-- The command map, row by row (R72). What no row lists is reserved (R75). -/
def decodeCmd (d : Byte) : Instr :=
  if d = 0x00 then .nop
  else if codeGroup d = 0x1 then .adv16 (codeCount d)
  else if codeGroup d = 0x2 then .adv31 (codeCount d)
  else if d = 0x30 then .byte16_8
  else if d = 0x31 then .byte16_16
  else if d = 0x32 then .byte31_8
  else if d = 0x33 then .byte31_16
  else if d = 0x38 then .seed16
  else if d = 0x39 then .seed31
  else if d = 0x40 then .xseek
  else if d = 0x41 then .xread
  else if d = 0x42 then .xwrite
  else if d = 0x48 then .ack
  else if d = 0x50 then .readychk
  else if d = 0x60 then .devx
  else if d = 0xFF then .srst
  else .reservedCmd d

/-- The exchange of the writable register `reg` with the byte `d`; for CMD, the command `d` encodes (20_memory.md R52). -/
def decodeExchange (d : Byte) : HReg → Instr
  | .cmd => decodeCmd d
  | .cylLo => .wrCylLo d
  | .cylHi => .wrCylHi d
  | .head => .wrHead d
  | .sector => .wrSector d
  | .t1Lo => .wrT1Lo d
  | .t1Hi => .wrT1Hi d
  | .t2Lo => .wrT2Lo d
  | .t2Hi => .wrT2Hi d
  | .t3Lo => .wrT3Lo d
  | .t3Hi => .wrT3Hi d
  | .seed16Lo => .wrSeed16Lo d
  | .seed16Hi => .wrSeed16Hi d
  | .seed31B0 => .wrSeed31B0 d
  | .seed31B1 => .wrSeed31B1 d
  | .seed31B2 => .wrSeed31B2 d
  | .seed31B3 => .wrSeed31B3 d
  | .devReg => .wrDevReg d
  | .devData => .wrDevData d

/-- The instruction of the host transaction `HostXact(r, d)`: the formats of R70, in the order of 20_memory.md R52. -/
def decodeXact (r d : Byte) : Instr :=
  if r < Config.hostRoThreshold then
    match HReg.ofNumber? r with
    | some reg => decodeExchange d reg
    | none => .wrReserved r d
  else .rd r d

/-- The instruction of a host transaction word. -/
def decodeWord (x : Word) : Instr := decodeXact (regByte x) (dataByte x)

/-- Why bytes are no host transaction: "A decoder tells the length of a transaction by its being two bytes" (R70), and
no longer or shorter form exists (R76). -/
inductive DecodeError where
  | tooShort
  | tooLong
deriving DecidableEq, Repr

/-- Decoding a list of bytes, the register number first (20_memory.md R52; log entry 10). -/
def decode : List Byte → Except DecodeError Instr
  | [] => .error .tooShort
  | [_] => .error .tooShort
  | [r, d] => .ok (decodeXact r d)
  | _ :: _ :: _ :: _ => .error .tooLong

/-- The word of `nbits` bits of spec/opcode_table.json, every bit above them zero, if it is no longer than the one
length the block has (R70). -/
def tableWord? (nbits w : Nat) : Option Word :=
  if nbits ≤ 16 then some (BitVec.ofNat 16 (w % 2 ^ nbits)) else none

/-- What the decoder reads from the bits `w` of a row of the opcode table (log entry 10). -/
def decodeTableWord (nbits w : Nat) : Option Instr :=
  match tableWord? nbits w with
  | none => none
  | some x =>
    match decode [regByte x, dataByte x] with
    | .ok i => some i
    | .error _ => none

/-- The CMD write that carries the command code `d` (R70). -/
def cmdWord (d : Byte) : Word := hostWord HReg.cmd.number d

/-- The word of the exchange of a writable register with `v` (R70). -/
def writeWord (reg : HReg) (v : Byte) : Word := hostWord reg.number v

/-- The code of an advance in group `g`: `g` in the high nibble, the count less one in the low one (R71, R73). -/
def advanceCode (g : BitVec 4) (n : BitVec 5) : Byte := g ++ (n - 1).extractLsb' 0 4

/-- The word of an instruction (R70 to R73). -/
def encode : Instr → Word
  | .nop => cmdWord 0x00
  | .adv16 n => cmdWord (advanceCode 0x1 n)
  | .adv31 n => cmdWord (advanceCode 0x2 n)
  | .byte16_8 => cmdWord 0x30
  | .byte16_16 => cmdWord 0x31
  | .byte31_8 => cmdWord 0x32
  | .byte31_16 => cmdWord 0x33
  | .seed16 => cmdWord 0x38
  | .seed31 => cmdWord 0x39
  | .xseek => cmdWord 0x40
  | .xread => cmdWord 0x41
  | .xwrite => cmdWord 0x42
  | .ack => cmdWord 0x48
  | .readychk => cmdWord 0x50
  | .devx => cmdWord 0x60
  | .srst => cmdWord 0xFF
  | .reservedCmd d => cmdWord d
  | .wrCylLo v => writeWord .cylLo v
  | .wrCylHi v => writeWord .cylHi v
  | .wrHead v => writeWord .head v
  | .wrSector v => writeWord .sector v
  | .wrT1Lo v => writeWord .t1Lo v
  | .wrT1Hi v => writeWord .t1Hi v
  | .wrT2Lo v => writeWord .t2Lo v
  | .wrT2Hi v => writeWord .t2Hi v
  | .wrT3Lo v => writeWord .t3Lo v
  | .wrT3Hi v => writeWord .t3Hi v
  | .wrSeed16Lo v => writeWord .seed16Lo v
  | .wrSeed16Hi v => writeWord .seed16Hi v
  | .wrSeed31B0 v => writeWord .seed31B0 v
  | .wrSeed31B1 v => writeWord .seed31B1 v
  | .wrSeed31B2 v => writeWord .seed31B2 v
  | .wrSeed31B3 v => writeWord .seed31B3 v
  | .wrDevReg v => writeWord .devReg v
  | .wrDevData v => writeWord .devData v
  | .wrReserved r x => hostWord r x
  | .rd r x => hostWord r x

/-- The two bytes of an instruction, the register number first (20_memory.md R52). -/
def encodeBytes (i : Instr) : List Byte := [regByte (encode i), dataByte (encode i)]

end Sys2Proof
end

