-- ==== Sys2Proof/Machine/State.lean ====
section
/-! DEFINITION. The state of RK05-XB: everything 10_state.md lists, and beside it the lists that stand for the block's
three ports (log entries 1, 3 and 6). Plain data throughout. -/

namespace Sys2Proof.Machine

/-- The storage of the writable host registers 0x00 to 0x12 (10_state.md, section 2). -/
structure HostRegs where
  cmd : Byte
  cylLo : Byte
  cylHi : Byte
  head : Byte
  sector : Byte
  t1Lo : Byte
  t1Hi : Byte
  t2Lo : Byte
  t2Hi : Byte
  t3Lo : Byte
  t3Hi : Byte
  seed16Lo : Byte
  seed16Hi : Byte
  seed31B0 : Byte
  seed31B1 : Byte
  seed31B2 : Byte
  seed31B3 : Byte
  devReg : Byte
  devData : Byte
deriving DecidableEq, Repr

/-- The handshake states (10_state.md R35). Code 7 has no constructor: "No rule sets `st` to 7". -/
inductive St where
  | idle
  | seekIssued
  | addrAccepted
  | driveReady
  | commandIssued
  | done
  | aborted
deriving DecidableEq, Repr

/-- The abort reasons (10_state.md R35, 60_exceptions.md R151). -/
inductive Reason where
  | none
  | addrAcceptTimeout
  | readyTimeout
  | completionTimeout
deriving DecidableEq, Repr

/-- `FLAGS` (10_state.md R36). Its reserved bits [7:4] have no storage. -/
structure Flags where
  errBusy : Bool
  errIllegal : Bool
  ready : Bool
  readyValid : Bool
deriving DecidableEq, Repr

/-- The two sticky error flags (60_exceptions.md R150). -/
inductive ErrFlag where
  | busy
  | illegal
deriving DecidableEq, Repr

/-- `XOP`, the operation of a transaction (10_state.md R40). -/
inductive XOp where
  | seek
  | read
  | write
deriving DecidableEq, Repr

/-- The latched transaction registers (10_state.md R40). -/
structure Latches where
  xop : XOp
  xcyl : Byte
  xrst : Bool
  xhead : Byte
  xsec : Byte
  xt1 : Word
  xt2 : Word
  xt3 : Word
deriving DecidableEq, Repr

/-- What reaches the block from outside, one event being one step (00_scope.md R4): a host transaction `HostXact(r, d)`,
a TICK, or a power-on reset (70_reset_and_hazards.md R170; log entry 5). -/
inductive Event where
  | host (r d : Byte)
  | tick
  | powerOn
deriving DecidableEq, Repr

/-- What the controller does at one device transaction: it answers a byte, or it never answers (20_memory.md R62, R63). -/
inductive Reply where
  | answer (p : Byte)
  | silent
deriving DecidableEq, Repr

/-- One completed device transaction `DevXact(reg, data) -> reply` (20_memory.md R61). -/
structure DevXact where
  reg : Byte
  data : Byte
  reply : Byte
deriving DecidableEq, Repr

/-- The state. The fields down to `x` are the block's, each with its rule in INVENTORY.md; the five after it are the
model's and stand for the ports. -/
structure State where
  h : HostRegs
  l16 : Gen16
  l31 : Gen31
  out : Byte
  st : St
  reason : Reason
  flags : Flags
  devPrev : Byte
  lastS1 : Byte
  lastS2 : Byte
  wcnt : Word
  x : Latches
  events : List Event
  replies : List Reply
  draws : Nat
  devLog : List DevXact
  hostRets : List Byte
deriving DecidableEq, Repr

/-- How the machine stops with a fault. -/
inductive Fault where
  /-- The controller never answers a device transaction of this step: "A model in which the controller never answers must
  treat the issuing step as stuck, never as completed" (20_memory.md R63). Raised by every device transaction whose listed
  reply is `Reply.silent`. SAFE: nothing is claimed of what follows (log entry 4). -/
  | controllerSilent
deriving DecidableEq, Repr

/-- How the machine refuses an instruction. -/
inductive Refusal where
  /-- An instruction with no meaning in the model yet. Raised by an arm of `exec` alone, and by none: every instruction of
  the table has its meaning. SAFE: nothing is claimed of what follows. -/
  | notModelled (mnemonic : String)
deriving DecidableEq, Repr

/-- What a step answers. -/
abbrev Result := Host.Outcome State Fault Refusal

/-- The writable host registers after reset, with the two seeds (70_reset_and_hazards.md R170; 10_state.md R21 to R29). -/
def HostRegs.resetWith (seed16 : Gen16) (seed31 : Gen31) : HostRegs where
  cmd := 0x00
  cylLo := 0x00
  cylHi := 0x00
  head := 0x00
  sector := 0x00
  t1Lo := Config.t1Reset.extractLsb' 0 8
  t1Hi := Config.t1Reset.extractLsb' 8 8
  t2Lo := Config.t2Reset.extractLsb' 0 8
  t2Hi := Config.t2Reset.extractLsb' 8 8
  t3Lo := Config.t3Reset.extractLsb' 0 8
  t3Hi := Config.t3Reset.extractLsb' 8 8
  seed16Lo := seed16.extractLsb' 0 8
  seed16Hi := seed16.extractLsb' 8 8
  seed31B0 := seed31.extractLsb' 0 8
  seed31B1 := seed31.extractLsb' 8 8
  seed31B2 := seed31.extractLsb' 16 8
  seed31B3 := (seed31.extractLsb' 24 7).zeroExtend 8
  devReg := 0x00
  devData := 0x00

/-- The latches after reset: "all 0, except XT1 = XT2 = XT3 = 1" (10_state.md R40); XOP 0 is SEEK (log entry 12). -/
def Latches.reset : Latches :=
  { xop := .seek, xcyl := 0x00, xrst := false, xhead := 0x00, xsec := 0x00, xt1 := 1, xt2 := 1, xt3 := 1 }

/-- The state after reset, for given values of the two OPEN seeds (70_reset_and_hazards.md R170). The ports list nothing
(log entries 1, 3 and 6). -/
def State.resetWith (seed16 : Gen16) (seed31 : Gen31) : State where
  h := HostRegs.resetWith seed16 seed31
  l16 := seed16
  l31 := seed31
  out := 0x00
  st := .idle
  reason := .none
  flags := { errBusy := false, errIllegal := false, ready := false, readyValid := false }
  devPrev := 0x00
  lastS1 := 0x00
  lastS2 := 0x00
  wcnt := 0
  x := Latches.reset
  events := []
  replies := []
  draws := 0
  devLog := []
  hostRets := []

/-- The machine right after reset: the OPEN seeds are the constants without a body of Config (log entry 7). -/
def State.reset : State := State.resetWith Config.lfsr16Seed Config.lfsr31Seed

end Sys2Proof.Machine
end

