-- ==== Sys2Proof/Machine/Flags.lean ====
section
/-! DEFINITION. The status registers STATE and FLAGS (10_state.md R34 to R36) and the status bits of the controller that
the block tests (42_device_shim.md R133). -/

namespace Sys2Proof.Machine

/-- The code of a handshake state, `STATE[2:0]` (10_state.md R35). -/
def St.code : St → BitVec 3
  | .idle => 0
  | .seekIssued => 1
  | .addrAccepted => 2
  | .driveReady => 3
  | .commandIssued => 4
  | .done => 5
  | .aborted => 6

/-- The code of an abort reason, `STATE[5:4]` (10_state.md R35). -/
def Reason.code : Reason → BitVec 2
  | .none => 0
  | .addrAcceptTimeout => 1
  | .readyTimeout => 2
  | .completionTimeout => 3

/-- The predicate `busy` of a handshake state (10_state.md R34). -/
def St.busy : St → Bool
  | .idle => false
  | .seekIssued => true
  | .addrAccepted => true
  | .driveReady => true
  | .commandIssued => true
  | .done => false
  | .aborted => false

/-- The handshake engine is busy (10_state.md R34). -/
def State.busy (s : State) : Bool := s.st.busy

/-- The byte of the host register STATE: busy, 0, reason, 0, st, from bit 7 down (10_state.md R34). -/
def State.stateByte (s : State) : Byte :=
  BitVec.ofBool s.busy ++ 0#1 ++ s.reason.code ++ 0#1 ++ s.st.code

/-- The byte of the host register FLAGS: four zeros, READY_VALID, READY, ERR_ILLEGAL, ERR_BUSY, from bit 7 down
(10_state.md R36). -/
def Flags.byte (f : Flags) : Byte :=
  0#4 ++ BitVec.ofBool f.readyValid ++ BitVec.ofBool f.ready ++ BitVec.ofBool f.errIllegal ++ BitVec.ofBool f.errBusy

/-- `FLAGS` with the sticky flag `e` set (60_exceptions.md R150). -/
def Flags.raise (f : Flags) : ErrFlag → Flags
  | .busy => { f with errBusy := true }
  | .illegal => { f with errIllegal := true }

/-- `FLAGS` with both sticky flags cleared; READY and READY_VALID stay (41_handshake.md R115). -/
def Flags.acknowledge (f : Flags) : Flags := { f with errBusy := false, errIllegal := false }

/-- `FLAGS` after a READYCHK that found `b` (41_handshake.md R116). -/
def Flags.checked (f : Flags) (b : Bool) : Flags := { f with ready := b, readyValid := true }

/-- Address-Accepted in a Status1 byte (42_device_shim.md R133). -/
def addrAcceptedBit (v : Byte) : Bool := v.getLsbD Config.s1AddrAccepted

/-- RWS Ready in a Status2 byte (42_device_shim.md R133). -/
def rwsReadyBit (v : Byte) : Bool := v.getLsbD Config.s2RwsReady

/-- The completion flag in a Status2 byte: read-in-progress for READ, else write-in-progress (41_handshake.md R109). -/
def completionBit (op : XOp) (v : Byte) : Bool :=
  if op = .read then v.getLsbD Config.s2Rip else v.getLsbD Config.s2Wip

/-- The readiness of a drive whose status bytes are `v1` and `v2` (41_handshake.md R116). -/
def driveReadyBits (v1 v2 : Byte) : Bool :=
  v1.getLsbD Config.s1FileReady && v1.getLsbD Config.s1HighDensity && !v1.getLsbD Config.s1DcLow && rwsReadyBit v2

end Sys2Proof.Machine
end

