-- ==== Sys2Proof/Machine/Operands.lean ====
section
/-! DEFINITION. Operand assembly (30_encoding.md R73, R74; byte order 20_memory.md R56). -/

namespace Sys2Proof.Machine

/-- The larger of two unsigned values (00_scope.md, section 5). -/
def umax (a b : Word) : Word := if a < b then b else a

/-- `T1 = {H[0x06], H[0x05]}` (10_state.md R26). -/
def HostRegs.t1 (h : HostRegs) : Word := h.t1Hi ++ h.t1Lo

/-- `T2 = {H[0x08], H[0x07]}` (10_state.md R26). -/
def HostRegs.t2 (h : HostRegs) : Word := h.t2Hi ++ h.t2Lo

/-- `T3 = {H[0x0A], H[0x09]}` (10_state.md R26). -/
def HostRegs.t3 (h : HostRegs) : Word := h.t3Hi ++ h.t3Lo

/-- The effective budget of a budget register, `max(T, 1)` (41_handshake.md R103). -/
def effectiveBudget (t : Word) : Word := umax t 1

/-- The SEED16 staging value, `{H[0x0C], H[0x0B]}` (10_state.md R27). -/
def HostRegs.seed16 (h : HostRegs) : Gen16 := h.seed16Hi ++ h.seed16Lo

/-- The SEED31 operand, `{H[0x10][6:0], H[0x0F], H[0x0E], H[0x0D]}`: bit 7 of H[0x10] is ignored (10_state.md R28). -/
def HostRegs.seed31 (h : HostRegs) : Gen31 :=
  h.seed31B3.extractLsb' 0 7 ++ h.seed31B2 ++ h.seed31B1 ++ h.seed31B0

/-- `RESTORE`, `CYL_HI[7]` (10_state.md R23). -/
def HostRegs.restore (h : HostRegs) : Bool := h.cylHi.getLsbD 7

/-- The operands of a transaction as its start latches them (41_handshake.md R104). -/
def HostRegs.latch (h : HostRegs) (op : XOp) : Latches where
  xop := op
  xcyl := h.cylLo
  xrst := h.restore
  xhead := h.head
  xsec := h.sector
  xt1 := effectiveBudget h.t1
  xt2 := effectiveBudget h.t2
  xt3 := effectiveBudget h.t3

/-- The seek command byte: `DC_SEEK or (XRST ? DC_RESTORE : 0x00)` (41_handshake.md R104, 42_device_shim.md R131). -/
def seekByte (restore : Bool) : Byte := Config.dcSeek ||| (if restore then Config.dcRestore else 0x00)

/-- The transfer command byte: `XOP = READ ? DC_READ : DC_WRITE` (41_handshake.md R108). -/
def transferByte (op : XOp) : Byte := if op = .read then Config.dcRead else Config.dcWrite

end Sys2Proof.Machine
end

