-- ==== Sys2Proof/Machine/Ops.lean ====
section
/-! DEFINITION. The operations the meanings share: the host registers and the host port, the device port, the error flags,
the abort and the reset of the block. -/

namespace Sys2Proof.Machine

/-- `H[r]` (10_state.md, section 2). -/
def HostRegs.get (h : HostRegs) : HReg → Byte
  | .cmd => h.cmd
  | .cylLo => h.cylLo
  | .cylHi => h.cylHi
  | .head => h.head
  | .sector => h.sector
  | .t1Lo => h.t1Lo
  | .t1Hi => h.t1Hi
  | .t2Lo => h.t2Lo
  | .t2Hi => h.t2Hi
  | .t3Lo => h.t3Lo
  | .t3Hi => h.t3Hi
  | .seed16Lo => h.seed16Lo
  | .seed16Hi => h.seed16Hi
  | .seed31B0 => h.seed31B0
  | .seed31B1 => h.seed31B1
  | .seed31B2 => h.seed31B2
  | .seed31B3 => h.seed31B3
  | .devReg => h.devReg
  | .devData => h.devData

/-- `H[r] <- v` (10_state.md, section 2). -/
def HostRegs.set (h : HostRegs) (v : Byte) : HReg → HostRegs
  | .cmd => { h with cmd := v }
  | .cylLo => { h with cylLo := v }
  | .cylHi => { h with cylHi := v }
  | .head => { h with head := v }
  | .sector => { h with sector := v }
  | .t1Lo => { h with t1Lo := v }
  | .t1Hi => { h with t1Hi := v }
  | .t2Lo => { h with t2Lo := v }
  | .t2Hi => { h with t2Hi := v }
  | .t3Lo => { h with t3Lo := v }
  | .t3Hi => { h with t3Hi := v }
  | .seed16Lo => { h with seed16Lo := v }
  | .seed16Hi => { h with seed16Hi := v }
  | .seed31B0 => { h with seed31B0 := v }
  | .seed31B1 => { h with seed31B1 := v }
  | .seed31B2 => { h with seed31B2 := v }
  | .seed31B3 => { h with seed31B3 := v }
  | .devReg => { h with devReg := v }
  | .devData => { h with devData := v }

/-- `ReadRO(r)`: what a read-only register number holds (20_memory.md R54; little-endian, R56; reserved numbers read 0x00,
R55). -/
def State.readRO (s : State) (r : Byte) : Byte :=
  if r = 0x80 then s.stateByte
  else if r = 0x81 then s.flags.byte
  else if r = 0x82 then s.out
  else if r = 0x83 then s.l16.extractLsb' 0 8
  else if r = 0x84 then s.l16.extractLsb' 8 8
  else if r = 0x85 then s.l31.extractLsb' 0 8
  else if r = 0x86 then s.l31.extractLsb' 8 8
  else if r = 0x87 then s.l31.extractLsb' 16 8
  else if r = 0x88 then 0#1 ++ s.l31.extractLsb' 24 7
  else if r = 0x89 then s.devPrev
  else if r = 0x8A then s.lastS1
  else if r = 0x8B then s.lastS2
  else if r = 0x8C then s.wcnt.extractLsb' 0 8
  else if r = 0x8D then s.wcnt.extractLsb' 8 8
  else if r < 0xC0 then 0x00
  else
    match HReg.ofNumber? (r - 0xC0) with
    | some reg => s.h.get reg
    | none => 0x00

/-- What stands at host register number `r`: the byte a host transaction to `r` returns (20_memory.md R52 to R55). -/
def State.hostReg (s : State) (r : Byte) : Byte :=
  if r < Config.hostRoThreshold then
    match HReg.ofNumber? r with
    | some reg => s.h.get reg
    | none => 0x00
  else s.readRO r

/-- The host transaction of this step returns `p` (20_memory.md R52). -/
def hostReturn (p : Byte) (s : State) : State := { s with hostRets := s.hostRets ++ [p] }

/-- The exchange of a writable register: its old value is returned and `v` is stored (20_memory.md R53, R59). -/
def exchange (reg : HReg) (v : Byte) (s : State) : State :=
  hostReturn (s.h.get reg) { s with h := s.h.set v reg }

/-- A write of CMD up to the execution of the command: the code is stored and the previous code is what the transaction
returns, whatever the command does (20_memory.md R53). -/
def storeCmd (d : Byte) (s : State) : State := exchange .cmd d s

/-- What the controller answers to the `k`-th device transaction from now (0 is the next one) if that is
`DevXact(r, d)`: the listed reply, and where none is listed a free value (20_memory.md R62; log entry 3). -/
def controllerReply (s : State) (k : Nat) (r d : Byte) : Option Byte :=
  match s.replies[k]? with
  | some (.answer p) => some p
  | some .silent => none
  | none => some (Config.freeReply (s.draws + k) r d)

/-- The device transaction `DevXact(r, d) -> p` has completed. -/
def recordXact (r d p : Byte) (s : State) : State :=
  { s with replies := s.replies.tail, draws := s.draws + 1, devLog := s.devLog ++ [{ reg := r, data := d, reply := p }] }

/-- `p <- DevXact(r, d)` and then `k p`: the step does not continue until the controller answers, and is stuck if it never
does (20_memory.md R61, R63). -/
def devXact (r d : Byte) (s : State) (k : Byte → State → Result) : Result :=
  match controllerReply s 0 r d with
  | some p => k p (recordXact r d p s)
  | none => .fault .controllerSilent

/-- A device read: `DevXact(reg, 0x00)` (42_device_shim.md R132). -/
def devRead (r : Byte) (s : State) (k : Byte → State → Result) : Result := devXact r 0x00 s k

/-- A device write, whose reply is discarded (20_memory.md R62). -/
def devWrite (r d : Byte) (s : State) (k : State → Result) : Result := devXact r d s fun _ t => k t

/-- `set_err(E)`: the block's only form of raising an error (60_exceptions.md R150). -/
def setErr (e : ErrFlag) (s : State) : State := { s with flags := s.flags.raise e }

/-- `abort(reason)`: the block's only trap-like entry (41_handshake.md R113, 60_exceptions.md R154). -/
def abort (reason : Reason) (s : State) : Result :=
  devWrite Config.devCommand Config.dcClear s fun t => .next { t with reason := reason, st := .aborted }

/-- The return from an outcome and the clearing of the sticky errors (41_handshake.md R115, 60_exceptions.md R155). -/
def acknowledge (s : State) : State := { s with st := .idle, reason := .none, flags := s.flags.acknowledge }

/-- A command that needs the handshake engine idle: written while `busy` it sets ERR_BUSY and does nothing else
(43_control.md R143, 60_exceptions.md R150). -/
def whenNotBusy (s : State) (k : State → Result) : Result := if s.busy then .next (setErr .busy s) else k s

/-- `ResetState()`: every register of 10_state.md takes its reset value, and nothing happens at a port (70_reset_and_hazards.md
R170, R171; log entry 16). -/
def resetState (s : State) : State :=
  { State.reset with
    events := s.events, replies := s.replies, draws := s.draws, devLog := s.devLog, hostRets := s.hostRets }

end Sys2Proof.Machine
end

