-- ==== Sys2Proof/Machine/Control.lean ====
section
/-! DEFINITION. The control commands NOP, SRST and the reserved codes (43_control.md), and the power-on reset. -/

namespace Sys2Proof.Machine

/-- NOP: nothing beyond the store of 0x00 into CMD (R140). -/
def execNop (s : State) : Result := .next (storeCmd 0x00 s)

/-- A reserved code: it is stored, and ERR_ILLEGAL is set in every state (R141). -/
def execReservedCmd (d : Byte) (s : State) : Result := .next (setErr .illegal (storeCmd d s))

/-- SRST: the previous code is returned, and then `ResetState()`, CMD included (R142). -/
def execSrst (s : State) : Result := .next (resetState (storeCmd 0xFF s))

/-- A power-on reset: `ResetState()` (70_reset_and_hazards.md R170; log entry 5). -/
def powerOn (s : State) : Result := .next (resetState s)

end Sys2Proof.Machine
end

