-- ==== Sys2Proof/Machine/Handshake.lean ====
section
/-! DEFINITION. The protocol handshake state machine: the transaction commands, the TICK and its actions, ACK and READYCHK
(41_handshake.md). -/

namespace Sys2Proof.Machine

/-- The part of `StartXfer(op)` before its device transactions: the latches, the reason and WCNT (R104). -/
def latchStart (op : XOp) (s : State) : State := { s with x := s.h.latch op, reason := .none, wcnt := 0 }

/-- `StartXfer(op)` (R104). -/
def startXfer (op : XOp) (s : State) : Result :=
  let s := latchStart op s
  devWrite Config.devCyl s.x.xcyl s fun t =>
    devWrite Config.devCommand (seekByte s.x.xrst) t fun u => .next { u with st := .seekIssued }

/-- XSEEK (R110, R105). -/
def execXseek (s : State) : Result := whenNotBusy (storeCmd 0x40 s) fun s => startXfer .seek s

/-- XREAD (R111, R105). -/
def execXread (s : State) : Result := whenNotBusy (storeCmd 0x41 s) fun s => startXfer .read s

/-- XWRITE (R112, R105). -/
def execXwrite (s : State) : Result := whenNotBusy (storeCmd 0x42 s) fun s => startXfer .write s

/-- A failed poll: WCNT counts it, and the stage times out when WCNT reaches its budget (R103). -/
def failedPoll (budget : Word) (reason : Reason) (s : State) : Result :=
  let s := { s with wcnt := s.wcnt + 1 }
  if s.wcnt = budget then abort reason s else .next s

/-- `PollAddrAccepted()` (R106). -/
def pollAddrAccepted (s : State) : Result :=
  devRead Config.devStatus1 s fun v s =>
    let s := { s with lastS1 := v }
    if addrAcceptedBit v then .next { s with st := .addrAccepted, wcnt := 0 }
    else failedPoll s.x.xt1 .addrAcceptTimeout s

/-- `PollReady()`: WCNT keeps this stage's count on success (R107). -/
def pollReady (s : State) : Result :=
  devRead Config.devStatus2 s fun v s =>
    let s := { s with lastS2 := v }
    if rwsReadyBit v then .next { s with st := .driveReady }
    else failedPoll s.x.xt2 .readyTimeout s

/-- `IssueCommand()` (R108). -/
def issueCommand (s : State) : Result :=
  if s.x.xop = .seek then .next { s with st := .done }
  else
    devWrite Config.devHead s.x.xhead s fun s =>
      devWrite Config.devSector s.x.xsec s fun s =>
        devWrite Config.devCommand (transferByte s.x.xop) s fun s => .next { s with st := .commandIssued, wcnt := 0 }

/-- `PollCompletion()` (R109). -/
def pollCompletion (s : State) : Result :=
  devRead Config.devStatus2 s fun v s =>
    let s := { s with lastS2 := v }
    if completionBit s.x.xop v then failedPoll s.x.xt3 .completionTimeout s
    else .next { s with st := .done }

/-- `Tick()` (R102). -/
def tick (s : State) : Result :=
  match s.st with
  | .seekIssued => pollAddrAccepted s
  | .addrAccepted => pollReady s
  | .driveReady => issueCommand s
  | .commandIssued => pollCompletion s
  | .idle => .next s
  | .done => .next s
  | .aborted => .next s

/-- ACK (R115). -/
def execAck (s : State) : Result := whenNotBusy (storeCmd 0x48 s) fun s => .next (acknowledge s)

/-- READYCHK (R116). -/
def execReadychk (s : State) : Result :=
  whenNotBusy (storeCmd 0x50 s) fun s =>
    devRead Config.devStatus1 s fun v1 s =>
      let s := { s with lastS1 := v1 }
      devRead Config.devStatus2 s fun v2 s =>
        let s := { s with lastS2 := v2 }
        .next { s with flags := s.flags.checked (driveReadyBits v1 v2) }

end Sys2Proof.Machine
end

