-- ==== Sys2Proof/Machine/HostPort.lean ====
section
/-! DEFINITION. The host transactions that carry no command: the exchanges of the writable registers 0x01 to 0x12, the
reserved writable numbers and the reads (20_memory.md R52 to R55). -/

namespace Sys2Proof.Machine

/-- Exchange of CYL_LO, 0x01 (10_state.md R22); 20_memory.md R53. -/
def execWrCylLo (v : Byte) (s : State) : Result := .next (exchange .cylLo v s)

/-- Exchange of CYL_HI, 0x02 (10_state.md R23); 20_memory.md R53. -/
def execWrCylHi (v : Byte) (s : State) : Result := .next (exchange .cylHi v s)

/-- Exchange of HEAD, 0x03 (10_state.md R24); 20_memory.md R53. -/
def execWrHead (v : Byte) (s : State) : Result := .next (exchange .head v s)

/-- Exchange of SECTOR, 0x04 (10_state.md R25); 20_memory.md R53. -/
def execWrSector (v : Byte) (s : State) : Result := .next (exchange .sector v s)

/-- Exchange of 0x05, T1[7:0] (10_state.md R26); 20_memory.md R53. -/
def execWrT1Lo (v : Byte) (s : State) : Result := .next (exchange .t1Lo v s)

/-- Exchange of 0x06, T1[15:8] (10_state.md R26); 20_memory.md R53. -/
def execWrT1Hi (v : Byte) (s : State) : Result := .next (exchange .t1Hi v s)

/-- Exchange of 0x07, T2[7:0] (10_state.md R26); 20_memory.md R53. -/
def execWrT2Lo (v : Byte) (s : State) : Result := .next (exchange .t2Lo v s)

/-- Exchange of 0x08, T2[15:8] (10_state.md R26); 20_memory.md R53. -/
def execWrT2Hi (v : Byte) (s : State) : Result := .next (exchange .t2Hi v s)

/-- Exchange of 0x09, T3[7:0] (10_state.md R26); 20_memory.md R53. -/
def execWrT3Lo (v : Byte) (s : State) : Result := .next (exchange .t3Lo v s)

/-- Exchange of 0x0A, T3[15:8] (10_state.md R26); 20_memory.md R53. -/
def execWrT3Hi (v : Byte) (s : State) : Result := .next (exchange .t3Hi v s)

/-- Exchange of 0x0B, SEED16[7:0] (10_state.md R27); 20_memory.md R53. -/
def execWrSeed16Lo (v : Byte) (s : State) : Result := .next (exchange .seed16Lo v s)

/-- Exchange of 0x0C, SEED16[15:8] (10_state.md R27); 20_memory.md R53. -/
def execWrSeed16Hi (v : Byte) (s : State) : Result := .next (exchange .seed16Hi v s)

/-- Exchange of 0x0D, SEED31[7:0] (10_state.md R28); 20_memory.md R53. -/
def execWrSeed31B0 (v : Byte) (s : State) : Result := .next (exchange .seed31B0 v s)

/-- Exchange of 0x0E, SEED31[15:8] (10_state.md R28); 20_memory.md R53. -/
def execWrSeed31B1 (v : Byte) (s : State) : Result := .next (exchange .seed31B1 v s)

/-- Exchange of 0x0F, SEED31[23:16] (10_state.md R28); 20_memory.md R53. -/
def execWrSeed31B2 (v : Byte) (s : State) : Result := .next (exchange .seed31B2 v s)

/-- Exchange of 0x10, SEED31[31:24], bit 7 stored too (10_state.md R28); 20_memory.md R53. -/
def execWrSeed31B3 (v : Byte) (s : State) : Result := .next (exchange .seed31B3 v s)

/-- Exchange of DEVREG, 0x11 (10_state.md R29); 20_memory.md R53. -/
def execWrDevReg (v : Byte) (s : State) : Result := .next (exchange .devReg v s)

/-- Exchange of DEVDATA, 0x12 (10_state.md R29); 20_memory.md R53. -/
def execWrDevData (v : Byte) (s : State) : Result := .next (exchange .devData v s)

/-- A reserved writable number: "no effect on any state and returns 0x00" (20_memory.md R55). -/
def execWrReserved (_r _x : Byte) (s : State) : Result := .next (hostReturn 0x00 s)

/-- A read: d is ignored, no state changes, and `ReadRO(r)` is returned (20_memory.md R54). -/
def execRd (r _x : Byte) (s : State) : Result := .next (hostReturn (s.readRO r) s)

end Sys2Proof.Machine
end

