-- ==== Sys2Proof/Machine/Lfsr.lean ====
section
/-! DEFINITION. The two LFSR pattern generators and their commands (40_lfsr.md). -/

namespace Sys2Proof.Machine

/-- `parity(v, S)`: the xor of the bits of `v` at the positions `S` (00_scope.md, section 5). -/
def parity (v : BitVec n) (taps : List Nat) : Bool := taps.foldl (fun b i => b ^^ v.getLsbD i) false

/-- One bit position of LFSR16: `fb <- not parity(s, {0,2,3,5})`, then `{fb, s[15:1]}` (R80). -/
def step16 (s : Gen16) : Gen16 := BitVec.cons (!parity s Config.taps16) (s.extractLsb' 1 15)

/-- One bit position of LFSR31: `fb <- not parity(s, {0,3,...,27})`, then `{fb, s[30:1]}` (R81). -/
def step31 (s : Gen31) : Gen31 := BitVec.cons (!parity s Config.taps31) (s.extractLsb' 1 30)

/-- `L16 <- step16^k(L16)` (R84). -/
def advance16 (k : Nat) (s : State) : State := { s with l16 := step16^[k] s.l16 }

/-- `L31 <- step31^k(L31)` (R85). -/
def advance31 (k : Nat) (s : State) : State := { s with l31 := step31^[k] s.l31 }

/-- `OUT <- L16[7:0]` (R86, R87). -/
def output16 (s : State) : State := { s with out := s.l16.extractLsb' 0 8 }

/-- `OUT <- L31[7:0]` (R88, R89). -/
def output31 (s : State) : State := { s with out := s.l31.extractLsb' 0 8 }

/-- ADV16 n (R84). -/
def execAdv16 (n : BitVec 5) (s : State) : Result := .next (advance16 n.toNat (storeCmd (advanceCode 0x1 n) s))

/-- ADV31 n (R85). -/
def execAdv31 (n : BitVec 5) (s : State) : Result := .next (advance31 n.toNat (storeCmd (advanceCode 0x2 n) s))

/-- BYTE16_8 (R86). -/
def execByte16_8 (s : State) : Result := .next (output16 (advance16 8 (storeCmd 0x30 s)))

/-- BYTE16_16 (R87). -/
def execByte16_16 (s : State) : Result := .next (output16 (advance16 16 (storeCmd 0x31 s)))

/-- BYTE31_8 (R88). -/
def execByte31_8 (s : State) : Result := .next (output31 (advance31 8 (storeCmd 0x32 s)))

/-- BYTE31_16 (R89). -/
def execByte31_16 (s : State) : Result := .next (output31 (advance31 16 (storeCmd 0x33 s)))

/-- `L16 <- {H[0x0C], H[0x0B]}` (R92). -/
def loadSeed16 (s : State) : State := { s with l16 := s.h.seed16 }

/-- `L31 <- {H[0x10][6:0], H[0x0F], H[0x0E], H[0x0D]}` (R93). -/
def loadSeed31 (s : State) : State := { s with l31 := s.h.seed31 }

/-- SEED16: "Every 16-bit value is accepted, 0xFFFF included" (R92). -/
def execSeed16 (s : State) : Result := .next (loadSeed16 (storeCmd 0x38 s))

/-- SEED31 (R93). -/
def execSeed31 (s : State) : Result := .next (loadSeed31 (storeCmd 0x39 s))

end Sys2Proof.Machine
end

