-- ==== Sys2Proof/Machine/Shim.lean ====
section
/-! DEFINITION. The host's pass-through to the device port (42_device_shim.md, section 3). -/

namespace Sys2Proof.Machine

/-- DEVX: `DEVPREV <- DevXact(DEVREG, DEVDATA)`, refused while busy (R134). -/
def execDevx (s : State) : Result :=
  whenNotBusy (storeCmd 0x60 s) fun s => devXact s.h.devReg s.h.devData s fun p s => .next { s with devPrev := p }

end Sys2Proof.Machine
end

