-- ==== Sys2Proof/Machine/Dispatch.lean ====
section
/-! DEFINITION. One host transaction, dispatched to its meaning. -/

namespace Sys2Proof.Machine

-- One arm per row of spec/opcode_table.json, in its order (20_memory.md R52, 30_encoding.md R72).
def exec (i : Instr) (s : State) : Host.Outcome State Fault Refusal :=
  match i with
  | .nop => Sys2Proof.Machine.execNop s
  | .adv16 n => Sys2Proof.Machine.execAdv16 n s
  | .adv31 n => Sys2Proof.Machine.execAdv31 n s
  | .byte16_8 => Sys2Proof.Machine.execByte16_8 s
  | .byte16_16 => Sys2Proof.Machine.execByte16_16 s
  | .byte31_8 => Sys2Proof.Machine.execByte31_8 s
  | .byte31_16 => Sys2Proof.Machine.execByte31_16 s
  | .seed16 => Sys2Proof.Machine.execSeed16 s
  | .seed31 => Sys2Proof.Machine.execSeed31 s
  | .xseek => Sys2Proof.Machine.execXseek s
  | .xread => Sys2Proof.Machine.execXread s
  | .xwrite => Sys2Proof.Machine.execXwrite s
  | .ack => Sys2Proof.Machine.execAck s
  | .readychk => Sys2Proof.Machine.execReadychk s
  | .devx => Sys2Proof.Machine.execDevx s
  | .srst => Sys2Proof.Machine.execSrst s
  | .reservedCmd d => Sys2Proof.Machine.execReservedCmd d s
  | .wrCylLo v => Sys2Proof.Machine.execWrCylLo v s
  | .wrCylHi v => Sys2Proof.Machine.execWrCylHi v s
  | .wrHead v => Sys2Proof.Machine.execWrHead v s
  | .wrSector v => Sys2Proof.Machine.execWrSector v s
  | .wrT1Lo v => Sys2Proof.Machine.execWrT1Lo v s
  | .wrT1Hi v => Sys2Proof.Machine.execWrT1Hi v s
  | .wrT2Lo v => Sys2Proof.Machine.execWrT2Lo v s
  | .wrT2Hi v => Sys2Proof.Machine.execWrT2Hi v s
  | .wrT3Lo v => Sys2Proof.Machine.execWrT3Lo v s
  | .wrT3Hi v => Sys2Proof.Machine.execWrT3Hi v s
  | .wrSeed16Lo v => Sys2Proof.Machine.execWrSeed16Lo v s
  | .wrSeed16Hi v => Sys2Proof.Machine.execWrSeed16Hi v s
  | .wrSeed31B0 v => Sys2Proof.Machine.execWrSeed31B0 v s
  | .wrSeed31B1 v => Sys2Proof.Machine.execWrSeed31B1 v s
  | .wrSeed31B2 v => Sys2Proof.Machine.execWrSeed31B2 v s
  | .wrSeed31B3 v => Sys2Proof.Machine.execWrSeed31B3 v s
  | .wrDevReg v => Sys2Proof.Machine.execWrDevReg v s
  | .wrDevData v => Sys2Proof.Machine.execWrDevData v s
  | .wrReserved r x => Sys2Proof.Machine.execWrReserved r x s
  | .rd r x => Sys2Proof.Machine.execRd r x s

end Sys2Proof.Machine
end

