-- ==== Sys2Proof/Machine/Step.lean ====
section
/-! DEFINITION. One step of the block: one event (00_scope.md R4). -/

namespace Sys2Proof.Machine

/-- One step. The next event of the list is taken and processed whole; with no event the block "holds its state unchanged"
(60_exceptions.md R161; log entry 1). A host transaction runs the instruction its two bytes encode, a TICK runs `Tick()`
(41_handshake.md R102), a power-on reset runs `ResetState()` (70_reset_and_hazards.md R170). -/
def step (s : State) : Host.Outcome State Fault Refusal :=
  match s.events with
  | [] => .next s
  | .host r d :: es => exec (decodeXact r d) { s with events := es }
  | .tick :: es => tick { s with events := es }
  | .powerOn :: es => powerOn { s with events := es }

/-- The state in which the very next event is the host transaction of the bits `w` of a row of the opcode table
(log entry 2). A row wider than a host transaction word does not exist (30_encoding.md R76) and changes nothing. -/
def State.withFetchWord (s : State) (nbits w : Nat) : State :=
  match tableWord? nbits w with
  | none => s
  | some x => { s with events := .host (regByte x) (dataByte x) :: s.events }

end Sys2Proof.Machine
end

