-- ==== Sys2Proof/Safety.lean ====
section
/-! DEFINITION. What counts as a safe run of RK05-XB, in the words the statements use: the invariant of the state, the
duties of the controller, the wait stages, and runs over lists of events and of instructions. -/

namespace Sys2Proof.Machine

/-- A wait stage: SEEK_ISSUED, ADDR_ACCEPTED or COMMAND_ISSUED (41_handshake.md R101). -/
def St.waits : St → Bool
  | .seekIssued => true
  | .addrAccepted => true
  | .commandIssued => true
  | .idle => false
  | .driveReady => false
  | .done => false
  | .aborted => false

/-- The device register a wait stage polls (41_handshake.md R106, R107, R109). -/
def St.pollReg : St → Byte
  | .seekIssued => Config.devStatus1
  | _ => Config.devStatus2

/-- The abort reason of a wait stage (60_exceptions.md R151). -/
def St.timeoutReason : St → Reason
  | .seekIssued => .addrAcceptTimeout
  | .addrAccepted => .readyTimeout
  | .commandIssued => .completionTimeout
  | .idle => .none
  | .driveReady => .none
  | .done => .none
  | .aborted => .none

/-- The effective budget of the wait stage `st` (41_handshake.md R103). -/
def Latches.budget (x : Latches) : St → Word
  | .seekIssued => x.xt1
  | .addrAccepted => x.xt2
  | .commandIssued => x.xt3
  | .idle => 0
  | .driveReady => 0
  | .done => 0
  | .aborted => 0

/-- A status byte `v` shows what the wait stage `st` awaits: Status1 bit 6, Status2 bit 0, or the completion flag clear,
which is Status2 bit 6 for READ and bit 7 otherwise (41_handshake.md R106, R107, R109). -/
def Latches.awaited (x : Latches) (st : St) (v : Byte) : Bool :=
  match st with
  | .seekIssued => v.getLsbD 6
  | .addrAccepted => v.getLsbD 0
  | .commandIssued => !(if x.xop = .read then v.getLsbD 6 else v.getLsbD 7)
  | .idle => false
  | .driveReady => false
  | .done => false
  | .aborted => false

/-- The wait counter fits the handshake state: below the budget while a stage runs and after it succeeded, equal to the
budget after it timed out (41_handshake.md R103, R113; 10_state.md R39). A seek-only transaction has no completion stage
(41_handshake.md R108, R110). -/
def State.countFits (s : State) : Bool :=
  match s.st with
  | .idle => true
  | .seekIssued => decide (s.wcnt < s.x.xt1)
  | .addrAccepted => decide (s.wcnt < s.x.xt2)
  | .driveReady => decide (s.wcnt < s.x.xt2)
  | .commandIssued => decide (s.x.xop ≠ .seek) && decide (s.wcnt < s.x.xt3)
  | .done => if s.x.xop = .seek then decide (s.wcnt < s.x.xt2) else decide (s.wcnt < s.x.xt3)
  | .aborted =>
    match s.reason with
    | .none => false
    | .addrAcceptTimeout => decide (s.wcnt = s.x.xt1)
    | .readyTimeout => decide (s.wcnt = s.x.xt2)
    | .completionTimeout => decide (s.x.xop ≠ .seek) && decide (s.wcnt = s.x.xt3)

/-- The invariant of the handshake engine: a reason stands exactly in ABORTED (10_state.md R34), every effective budget is at
least 1 (10_state.md R40), and the wait counter fits the state. -/
abbrev State.EngineInv (s : State) : Prop :=
  (s.reason ≠ .none ↔ s.st = .aborted) ∧ 1 ≤ s.x.xt1 ∧ 1 ≤ s.x.xt2 ∧ 1 ≤ s.x.xt3 ∧ s.countFits = true

/-- What a device transaction carries to the controller. -/
def DevXact.sent (e : DevXact) : Byte × Byte := (e.reg, e.data)

/-- The device transactions issued so far as the controller sees them, in order (20_memory.md R64). -/
def State.sent (s : State) : List (Byte × Byte) := s.devLog.map DevXact.sent

/-- In COMMAND_ISSUED the device transactions end with the command byte of the transfer and the polls of Status2 that have
failed since (41_handshake.md R108, R109; nothing else uses the port while busy, R105 and 43_control.md R143). -/
abbrev State.portFits (s : State) : Prop :=
  s.st = .commandIssued →
    (Config.devCommand, transferByte s.x.xop) :: List.replicate s.wcnt.toNat (Config.devStatus2, 0x00) <:+ s.sent

/-- The invariant of the block: the engine's, and that the device transactions fit the state. -/
abbrev State.Inv (s : State) : Prop := s.EngineInv ∧ s.portFits

/-- Duty (a) of the controller: it answers every device transaction (42_device_shim.md R136). -/
abbrev State.ControllerAnswers (s : State) : Prop := Reply.silent ∉ s.replies

/-- What is true at the controller and the drive at one device transaction; the block cannot see it. `ended` lists the
operations that have completed by then, each named by the number of the device transaction that began it. -/
structure DriveView where
  addrLatched : Bool
  driveReady : Bool
  ended : List Nat
deriving DecidableEq, Repr

/-- The device transaction `e` writes the command byte `c` to the controller. -/
def DevXact.commands (e : DevXact) (c : Byte) : Prop := e.reg = Config.devCommand ∧ e.data = c

/-- Duties (b), (c) and (d) of the controller over the device transactions `log`, with the view at each of them
(42_device_shim.md R136): assumptions about the environment that a claim which needs them must state (log entry 18).
By (d) the flag of an operation reads 1 at every status read after the command byte that began it, the first one included,
until that operation has completed. -/
structure KeepsDuties (log : List DevXact) (views : List DriveView) : Prop where
  sameLength : views.length = log.length
  addrAccepted : ∀ (k : Nat) (e : DevXact) (f : DriveView), log[k]? = some e → views[k]? = some f →
    e.reg = Config.devStatus1 → f.addrLatched = true → e.reply.getLsbD Config.s1AddrAccepted = true
  rwsReady : ∀ (k : Nat) (e : DevXact) (f : DriveView), log[k]? = some e → views[k]? = some f →
    e.reg = Config.devStatus2 → f.driveReady = true → e.reply.getLsbD Config.s2RwsReady = true
  readInProgress : ∀ (i k : Nat) (c e : DevXact) (f : DriveView), i < k → log[i]? = some c → c.commands Config.dcRead →
    log[k]? = some e → views[k]? = some f → e.reg = Config.devStatus2 → i ∉ f.ended →
    e.reply.getLsbD Config.s2Rip = true
  writeInProgress : ∀ (i k : Nat) (c e : DevXact) (f : DriveView), i < k → log[i]? = some c → c.commands Config.dcWrite →
    log[k]? = some e → views[k]? = some f → e.reg = Config.devStatus2 → i ∉ f.ended →
    e.reply.getLsbD Config.s2Wip = true

/-- The steps that process the events `es`, one each. -/
def runEvents (es : List Event) (s : State) : Result := Host.Core.run Sys2Proof.core es.length { s with events := es }

/-- The host transactions `is`, one after the other, with no other event between them. -/
def runInstrs : List Instr → State → Result
  | [], s => .next s
  | i :: is, s =>
    match exec i s with
    | .next t => runInstrs is t
    | .fault f => .fault f
    | .refused q => .refused q

/-- How many bit positions an advance or byte command moves LFSR16, if it is one (40_lfsr.md R91). -/
def count16 : Instr → Option Nat
  | .adv16 n => some n.toNat
  | .byte16_8 => some 8
  | .byte16_16 => some 16
  | _ => none

/-- How many bit positions an advance or byte command moves LFSR31, if it is one (40_lfsr.md R91). -/
def count31 : Instr → Option Nat
  | .adv31 n => some n.toNat
  | .byte31_8 => some 8
  | .byte31_16 => some 16
  | _ => none

/-- An event that neither starts nor ends a transaction nor uses the device port otherwise than by a TICK: a TICK, a host
transaction to a register other than CMD, or an LFSR command, NOP or reserved code (43_control.md R143). -/
def Event.bystander : Event → Bool
  | .tick => true
  | .powerOn => false
  | .host r d => decide (r ≠ 0x00) || !([0x40, 0x41, 0x42, 0x48, 0x50, 0x60, 0xFF] : List Byte).contains d

/-- What the handshake engine and the device port hold. -/
structure EngineView where
  st : St
  reason : Reason
  wcnt : Word
  x : Latches
  lastS1 : Byte
  lastS2 : Byte
  replies : List Reply
  draws : Nat
  devLog : List DevXact
deriving DecidableEq, Repr

/-- The handshake engine and the device port of a state. -/
def State.engine (s : State) : EngineView where
  st := s.st
  reason := s.reason
  wcnt := s.wcnt
  x := s.x
  lastS1 := s.lastS1
  lastS2 := s.lastS2
  replies := s.replies
  draws := s.draws
  devLog := s.devLog

end Sys2Proof.Machine
end

