-- ==== Sys2Proof/Certificates/Slice0/Obligations.lean ====
section
/-! DEFINITION. The statements for the provers, each formalising a rule of spec/ or derived from its sections. -/

open Sys2Proof Sys2Proof.Machine

/-! ## Encoding and the step -/

/-- Decoding the word, or the two bytes, of a well-formed instruction gives it back (30_encoding.md, sections 1 to 3). -/
def Obligations.DecodeOfEncodeGivesInstruction : Prop :=
  ∀ i : Instr, i.wellFormed = true → decodeWord (encode i) = i ∧ decode (encodeBytes i) = .ok i

/-- Every 16-bit host transaction word is the word of exactly the well-formed instruction it decodes to (30_encoding.md,
sections 1 to 3). -/
def Obligations.EncodeOfDecodeGivesWord : Prop :=
  ∀ x : Word, encode (decodeWord x) = x ∧ (decodeWord x).wellFormed = true

/-- The whole command map (30_encoding.md R72), with the advance counts of R73. -/
def Obligations.CommandCodesDecodeAsTheMapSays : Prop :=
  decodeXact 0x00 0x00 = .nop ∧
  (∀ f : BitVec 4, decodeXact 0x00 (0x1#4 ++ f) = .adv16 (f.zeroExtend 5 + 1)) ∧
  (∀ f : BitVec 4, decodeXact 0x00 (0x2#4 ++ f) = .adv31 (f.zeroExtend 5 + 1)) ∧
  decodeXact 0x00 0x30 = .byte16_8 ∧ decodeXact 0x00 0x31 = .byte16_16 ∧
  decodeXact 0x00 0x32 = .byte31_8 ∧ decodeXact 0x00 0x33 = .byte31_16 ∧
  decodeXact 0x00 0x38 = .seed16 ∧ decodeXact 0x00 0x39 = .seed31 ∧
  decodeXact 0x00 0x40 = .xseek ∧ decodeXact 0x00 0x41 = .xread ∧ decodeXact 0x00 0x42 = .xwrite ∧
  decodeXact 0x00 0x48 = .ack ∧ decodeXact 0x00 0x50 = .readychk ∧ decodeXact 0x00 0x60 = .devx ∧
  decodeXact 0x00 0xFF = .srst ∧
  (∀ d : Byte, d.extractLsb' 4 4 ≠ 0x1 → d.extractLsb' 4 4 ≠ 0x2 →
    d ∉ ([0x00, 0x30, 0x31, 0x32, 0x33, 0x38, 0x39, 0x40, 0x41, 0x42, 0x48, 0x50, 0x60, 0xFF] : List Byte) →
    decodeXact 0x00 d = .reservedCmd d)

/-- Words written out bit by bit from the encoding column of spec/opcode_table.json (30_encoding.md, sections 1 and 2). -/
def Obligations.WrittenOutWordsDecode : Prop :=
  decodeWord 0b0000000000011111 = .adv16 16 ∧
  decodeWord 0b0000000000100000 = .adv31 1 ∧
  decodeWord 0b0000000000110011 = .byte31_16 ∧
  decodeWord 0b0000000001000010 = .xwrite ∧
  decodeWord 0b0000000001100000 = .devx ∧
  decodeWord 0b0000000011111111 = .srst ∧
  decodeWord 0b0000000000110100 = .reservedCmd 0x34 ∧
  decodeWord 0b0001000010010010 = .wrSeed31B3 0x92 ∧
  decodeWord 0b0001001101011010 = .wrReserved 0x13 0x5A ∧
  decodeWord 0b1000000001110111 = .rd 0x80 0x77

/-- A step runs the instruction the next host transaction encodes, the rest of the events left in place; and the word the
host of the model places is the one the next step runs (00_scope.md R4, 20_memory.md R52; log entries 1 and 2). -/
def Obligations.StepRunsTheDecodedInstruction : Prop :=
  (∀ (i : Instr) (s : State) (es : List Event), i.wellFormed = true →
    s.events = .host (regByte (encode i)) (dataByte (encode i)) :: es → step s = exec i { s with events := es }) ∧
  (∀ (i : Instr) (s : State), i.wellFormed = true → step (s.withFetchWord 16 (encode i).toNat) = exec i s)

/-- The steps that are no host transaction: a TICK, a power-on reset, and no event at all (00_scope.md R3, R4;
60_exceptions.md R161; log entries 1 and 5). -/
def Obligations.StepOnTickPowerOnAndNoEvent : Prop :=
  ∀ (s : State) (es : List Event),
    (s.events = .tick :: es → step s = tick { s with events := es }) ∧
    (s.events = .powerOn :: es → step s = .next { State.reset with
      events := es, replies := s.replies, draws := s.draws, devLog := s.devLog, hostRets := s.hostRets }) ∧
    (s.events = [] → step s = .next s)

/-! ## The LFSR generators -/

/-- One position of LFSR16 (40_lfsr.md R80): a right shift, with the inverted parity of bits 0, 2, 3 and 5 entering bit 15. -/
def Obligations.Step16ShiftsInInvertedParity : Prop :=
  ∀ s : Gen16,
    (step16 s).getLsbD 15 = !(s.getLsbD 0 ^^ s.getLsbD 2 ^^ s.getLsbD 3 ^^ s.getLsbD 5) ∧
    ∀ i, i < 15 → (step16 s).getLsbD i = s.getLsbD (i + 1)

/-- One position of LFSR31 (40_lfsr.md R81). -/
def Obligations.Step31ShiftsInInvertedParity : Prop :=
  ∀ s : Gen31,
    (step31 s).getLsbD 30 = !(s.getLsbD 0 ^^ s.getLsbD 3 ^^ s.getLsbD 7 ^^ s.getLsbD 11 ^^ s.getLsbD 15 ^^
      s.getLsbD 19 ^^ s.getLsbD 23 ^^ s.getLsbD 27) ∧
    ∀ i, i < 30 → (step31 s).getLsbD i = s.getLsbD (i + 1)

/-- The all-ones state is the only fixed point of each generator, and step16 is the complement of a plain XOR register
(40_lfsr.md, section 1, derived properties). -/
def Obligations.AllOnesIsTheOnlyStuckState : Prop :=
  (∀ s : Gen16, step16 s = s ↔ s = 0xFFFF) ∧
  (∀ s : Gen31, step31 s = s ↔ s = 0x7FFFFFFF) ∧
  (∀ s : Gen16, step16 s = ~~~ (BitVec.cons (parity (~~~ s) Config.taps16) ((~~~ s).extractLsb' 1 15)))

/-- Every state of LFSR16 comes back after 65535 steps, and every state of LFSR31 after 2^31 - 1 (40_lfsr.md, section 1,
derived properties). -/
def Obligations.GeneratorsReturnToEveryState : Prop :=
  (∀ s : Gen16, step16^[65535] s = s) ∧ (∀ s : Gen31, step31^[2147483647] s = s)

/-- Every value other than 0xFFFF lies on one cycle: from any of them, 65535 steps visit each of them exactly once
(40_lfsr.md, section 1, derived properties; 90_conflicts.md C1). -/
def Obligations.Gen16VisitsEachValueOnce : Prop :=
  ∀ s : Gen16, s ≠ 0xFFFF →
    (∀ k, step16^[k] s ≠ 0xFFFF) ∧
    (∀ v : Gen16, v ≠ 0xFFFF → ∃! k, k < 65535 ∧ step16^[k] s = v)

/-- Every value other than 0x7FFFFFFF lies on one cycle of length 2^31 - 1 (40_lfsr.md, section 1, derived properties). -/
def Obligations.Gen31VisitsEachValueOnce : Prop :=
  ∀ s : Gen31, s ≠ 0x7FFFFFFF →
    (∀ k, step31^[k] s ≠ 0x7FFFFFFF) ∧
    (∀ v : Gen31, v ≠ 0x7FFFFFFF → ∃! k, k < 2147483647 ∧ step31^[k] s = v)

/-- ADV16 n and ADV31 n complete in every state and change only their generator, beside CMD and the byte the transaction
returns; the all-ones state stays (40_lfsr.md R84, R85). -/
def Obligations.AdvanceCommandsMoveTheirGenerator : Prop :=
  ∀ (n : BitVec 5) (s : State), 1 ≤ n → n ≤ 16 →
    encode (.adv16 n) = 0x0010 ||| (n - 1).zeroExtend 16 ∧
    exec (.adv16 n) s = .next { s with
      h := { s.h with cmd := 0x10 ||| (n - 1).zeroExtend 8 }, l16 := step16^[n.toNat] s.l16,
      hostRets := s.hostRets ++ [s.h.cmd] } ∧
    encode (.adv31 n) = 0x0020 ||| (n - 1).zeroExtend 16 ∧
    exec (.adv31 n) s = .next { s with
      h := { s.h with cmd := 0x20 ||| (n - 1).zeroExtend 8 }, l31 := step31^[n.toNat] s.l31,
      hostRets := s.hostRets ++ [s.h.cmd] } ∧
    step16^[n.toNat] 0xFFFF = 0xFFFF ∧ step31^[n.toNat] 0x7FFFFFFF = 0x7FFFFFFF

/-- The byte commands complete in every state and change only their generator and OUT, beside CMD and the returned byte
(40_lfsr.md R86 to R89). OUT is the old byte that the corner cases of R86, R88 and R89 name, and after BYTE16_16 bit j of
the generator is the feedback bit of the j-th position (R87). The all-ones states stay, so that OUT is then 0xFF. -/
def Obligations.ByteCommandsOutputTheLowByte : Prop :=
  ∀ s : State,
    exec .byte16_8 s = .next { s with
      h := { s.h with cmd := 0x30 }, l16 := step16^[8] s.l16, out := s.l16.extractLsb' 8 8,
      hostRets := s.hostRets ++ [s.h.cmd] } ∧
    exec .byte16_16 s = .next { s with
      h := { s.h with cmd := 0x31 }, l16 := step16^[16] s.l16, out := (step16^[16] s.l16).extractLsb' 0 8,
      hostRets := s.hostRets ++ [s.h.cmd] } ∧
    (∀ j, j < 16 → (step16^[16] s.l16).getLsbD j = !parity (step16^[j] s.l16) [0, 2, 3, 5]) ∧
    exec .byte31_8 s = .next { s with
      h := { s.h with cmd := 0x32 }, l31 := step31^[8] s.l31, out := s.l31.extractLsb' 8 8,
      hostRets := s.hostRets ++ [s.h.cmd] } ∧
    exec .byte31_16 s = .next { s with
      h := { s.h with cmd := 0x33 }, l31 := step31^[16] s.l31, out := s.l31.extractLsb' 16 8,
      hostRets := s.hostRets ++ [s.h.cmd] } ∧
    (step16^[8] s.l16).extractLsb' 0 8 = s.l16.extractLsb' 8 8 ∧
    (step31^[8] s.l31).extractLsb' 0 8 = s.l31.extractLsb' 8 8 ∧
    (step31^[16] s.l31).extractLsb' 0 8 = s.l31.extractLsb' 16 8 ∧
    step16^[8] 0xFFFF = 0xFFFF ∧ step16^[16] 0xFFFF = 0xFFFF ∧
    step31^[8] 0x7FFFFFFF = 0x7FFFFFFF ∧ step31^[16] 0x7FFFFFFF = 0x7FFFFFFF ∧
    encode .byte16_8 = 0x0030 ∧ encode .byte16_16 = 0x0031 ∧ encode .byte31_8 = 0x0032 ∧ encode .byte31_16 = 0x0033

/-- SEED16 and SEED31 complete in every state, accept every staging value, ignore bit 7 of H[0x10] and keep it, and change
only their generator, beside CMD and the returned byte (40_lfsr.md R92, R93). A generator seeded with all ones stays
there, and one seeded with 0x0000 does not. -/
def Obligations.SeedCommandsLoadTheStagingValue : Prop :=
  ∀ s : State,
    exec .seed16 s = .next { s with
      h := { s.h with cmd := 0x38 }, l16 := s.h.seed16Hi ++ s.h.seed16Lo, hostRets := s.hostRets ++ [s.h.cmd] } ∧
    exec .seed31 s = .next { s with
      h := { s.h with cmd := 0x39 },
      l31 := s.h.seed31B3.extractLsb' 0 7 ++ s.h.seed31B2 ++ s.h.seed31B1 ++ s.h.seed31B0,
      hostRets := s.hostRets ++ [s.h.cmd] } ∧
    (∀ k, step16^[k] 0xFFFF = 0xFFFF) ∧ (∀ k, step31^[k] 0x7FFFFFFF = 0x7FFFFFFF) ∧ step16 0x0000 ≠ 0x0000 ∧
    encode .seed16 = 0x0038 ∧ encode .seed31 = 0x0039

/-- A sequence of advance and byte commands of one generator completes and leaves it where one advance by the sum of their
counts would (40_lfsr.md, section 2, on determinism). -/
def Obligations.AdvanceCountsAddUp : Prop :=
  (∀ (is : List Instr) (s : State), (∀ i ∈ is, (count16 i).isSome = true) →
    ∃ t, runInstrs is s = .next t ∧ t.l16 = step16^[(is.filterMap count16).sum] s.l16 ∧ t.l31 = s.l31) ∧
  (∀ (is : List Instr) (s : State), (∀ i ∈ is, (count31 i).isSome = true) →
    ∃ t, runInstrs is s = .next t ∧ t.l31 = step31^[(is.filterMap count31).sum] s.l31 ∧ t.l16 = s.l16)

/-- The generators are independent of each other and of the handshake engine (40_lfsr.md R90): an LFSR command is accepted in
every state, issues no device transaction and changes at most its own generator and OUT, beside CMD and the returned byte.
What it leaves in them is what it leaves from any other state with the same generator, or for SEED16 and SEED31 with the same
staging bytes. -/
def Obligations.LfsrCommandsAreIndependent : Prop :=
  ∀ (i : Instr) (s u : State),
    let frame (t : State) (g16 : Gen16) (g31 : Gen31) (out : Byte) : Prop := t = { s with
      h := { s.h with cmd := t.h.cmd }, l16 := g16, l31 := g31, out := out, hostRets := s.hostRets ++ [s.h.cmd] }
    ((count16 i).isSome = true → ∃ t v, exec i s = .next t ∧ exec i { u with l16 := s.l16 } = .next v ∧
      v.l16 = t.l16 ∧ frame t t.l16 s.l31 t.out ∧
      if i = .byte16_8 ∨ i = .byte16_16 then v.out = t.out else t.out = s.out) ∧
    ((count31 i).isSome = true → ∃ t v, exec i s = .next t ∧ exec i { u with l31 := s.l31 } = .next v ∧
      v.l31 = t.l31 ∧ frame t s.l16 t.l31 t.out ∧
      if i = .byte31_8 ∨ i = .byte31_16 then v.out = t.out else t.out = s.out) ∧
    (i = .seed16 → ∃ t v, exec i s = .next t ∧
      exec i { u with h := { u.h with seed16Lo := s.h.seed16Lo, seed16Hi := s.h.seed16Hi } } = .next v ∧
      v.l16 = t.l16 ∧ frame t t.l16 s.l31 s.out) ∧
    (i = .seed31 → ∃ t v, exec i s = .next t ∧
      exec i { u with
        h := { u.h with
          seed31B0 := s.h.seed31B0, seed31B1 := s.h.seed31B1, seed31B2 := s.h.seed31B2, seed31B3 := s.h.seed31B3 } } =
        .next v ∧
      v.l31 = t.l31 ∧ frame t s.l16 t.l31 s.out)

/-! ## The host port -/

/-- Every host transaction that completes returns exactly one byte: what stood at its register number before it
(20_memory.md, section 2). -/
def Obligations.HostTransactionReturnsWhatStoodThere : Prop :=
  ∀ (r d : Byte) (s t : State), exec (decodeXact r d) s = .next t → t.hostRets = s.hostRets ++ [s.hostReg r]

/-- The exchanges of the writable registers (20_memory.md R53), each at its number 0x01 to 0x12 of 10_state.md, section 4: each
stores its byte in its register, returns the value the register held, and changes nothing else. A CMD write stores its code (SRST then resets CMD, 43_control.md R142), runs
the command the code encodes, and returns the previous code whatever that command does. -/
def Obligations.WritableRegistersExchange : Prop :=
  ∀ (v : Byte) (s : State),
    let ret (p : Byte) (h : HostRegs) : Result := .next { s with h := h, hostRets := s.hostRets ++ [p] }
    exec (.wrCylLo v) s = ret s.h.cylLo { s.h with cylLo := v } ∧
    exec (.wrCylHi v) s = ret s.h.cylHi { s.h with cylHi := v } ∧
    exec (.wrHead v) s = ret s.h.head { s.h with head := v } ∧
    exec (.wrSector v) s = ret s.h.sector { s.h with sector := v } ∧
    exec (.wrT1Lo v) s = ret s.h.t1Lo { s.h with t1Lo := v } ∧
    exec (.wrT1Hi v) s = ret s.h.t1Hi { s.h with t1Hi := v } ∧
    exec (.wrT2Lo v) s = ret s.h.t2Lo { s.h with t2Lo := v } ∧
    exec (.wrT2Hi v) s = ret s.h.t2Hi { s.h with t2Hi := v } ∧
    exec (.wrT3Lo v) s = ret s.h.t3Lo { s.h with t3Lo := v } ∧
    exec (.wrT3Hi v) s = ret s.h.t3Hi { s.h with t3Hi := v } ∧
    exec (.wrSeed16Lo v) s = ret s.h.seed16Lo { s.h with seed16Lo := v } ∧
    exec (.wrSeed16Hi v) s = ret s.h.seed16Hi { s.h with seed16Hi := v } ∧
    exec (.wrSeed31B0 v) s = ret s.h.seed31B0 { s.h with seed31B0 := v } ∧
    exec (.wrSeed31B1 v) s = ret s.h.seed31B1 { s.h with seed31B1 := v } ∧
    exec (.wrSeed31B2 v) s = ret s.h.seed31B2 { s.h with seed31B2 := v } ∧
    exec (.wrSeed31B3 v) s = ret s.h.seed31B3 { s.h with seed31B3 := v } ∧
    exec (.wrDevReg v) s = ret s.h.devReg { s.h with devReg := v } ∧
    exec (.wrDevData v) s = ret s.h.devData { s.h with devData := v } ∧
    decodeXact 0x01 v = .wrCylLo v ∧ decodeXact 0x02 v = .wrCylHi v ∧ decodeXact 0x03 v = .wrHead v ∧
    decodeXact 0x04 v = .wrSector v ∧ decodeXact 0x05 v = .wrT1Lo v ∧ decodeXact 0x06 v = .wrT1Hi v ∧
    decodeXact 0x07 v = .wrT2Lo v ∧ decodeXact 0x08 v = .wrT2Hi v ∧ decodeXact 0x09 v = .wrT3Lo v ∧
    decodeXact 0x0A v = .wrT3Hi v ∧ decodeXact 0x0B v = .wrSeed16Lo v ∧ decodeXact 0x0C v = .wrSeed16Hi v ∧
    decodeXact 0x0D v = .wrSeed31B0 v ∧ decodeXact 0x0E v = .wrSeed31B1 v ∧ decodeXact 0x0F v = .wrSeed31B2 v ∧
    decodeXact 0x10 v = .wrSeed31B3 v ∧ decodeXact 0x11 v = .wrDevReg v ∧ decodeXact 0x12 v = .wrDevData v ∧
    decodeXact 0x00 v = decodeCmd v ∧
    (∀ t, exec (decodeXact 0x00 v) s = .next t →
      t.hostRets = s.hostRets ++ [s.h.cmd] ∧ t.h.cmd = (if v = 0xFF then 0x00 else v))

/-- The reads (20_memory.md R54): d is ignored, no state changes, and the value of the table is returned. -/
def Obligations.ReadOnlyRegistersRead : Prop :=
  ∀ (x : Byte) (s : State),
    let ret (p : Byte) : Result := .next { s with hostRets := s.hostRets ++ [p] }
    exec (.rd 0x80 x) s = ret s.stateByte ∧
    exec (.rd 0x81 x) s = ret s.flags.byte ∧
    exec (.rd 0x82 x) s = ret s.out ∧
    exec (.rd 0x83 x) s = ret (s.l16.extractLsb' 0 8) ∧ exec (.rd 0x84 x) s = ret (s.l16.extractLsb' 8 8) ∧
    exec (.rd 0x85 x) s = ret (s.l31.extractLsb' 0 8) ∧ exec (.rd 0x86 x) s = ret (s.l31.extractLsb' 8 8) ∧
    exec (.rd 0x87 x) s = ret (s.l31.extractLsb' 16 8) ∧ exec (.rd 0x88 x) s = ret (0#1 ++ s.l31.extractLsb' 24 7) ∧
    exec (.rd 0x89 x) s = ret s.devPrev ∧ exec (.rd 0x8A x) s = ret s.lastS1 ∧ exec (.rd 0x8B x) s = ret s.lastS2 ∧
    exec (.rd 0x8C x) s = ret (s.wcnt.extractLsb' 0 8) ∧ exec (.rd 0x8D x) s = ret (s.wcnt.extractLsb' 8 8) ∧
    (∀ q ∈ ([(0xC0, s.h.cmd), (0xC1, s.h.cylLo), (0xC2, s.h.cylHi), (0xC3, s.h.head), (0xC4, s.h.sector),
      (0xC5, s.h.t1Lo), (0xC6, s.h.t1Hi), (0xC7, s.h.t2Lo), (0xC8, s.h.t2Hi), (0xC9, s.h.t3Lo),
      (0xCA, s.h.t3Hi), (0xCB, s.h.seed16Lo), (0xCC, s.h.seed16Hi), (0xCD, s.h.seed31B0), (0xCE, s.h.seed31B1),
      (0xCF, s.h.seed31B2), (0xD0, s.h.seed31B3), (0xD1, s.h.devReg), (0xD2, s.h.devData)] : List (Byte × Byte)),
      exec (.rd q.1 x) s = ret q.2) ∧
    (∀ reg : HReg, exec (.rd (0xC0 + reg.number) x) s = ret (s.h.get reg)) ∧
    (∀ r : Byte, (0x8E ≤ r ∧ r ≤ 0xBF) ∨ 0xD3 ≤ r → exec (.rd r x) s = ret 0x00)

/-- A host transaction to a reserved register number changes nothing, whatever the data byte, and returns 0x00
(20_memory.md R55). -/
def Obligations.ReservedNumbersHaveNoEffect : Prop :=
  ∀ (r d : Byte) (s : State), (0x13 ≤ r ∧ r ≤ 0x7F) ∨ (0x8E ≤ r ∧ r ≤ 0xBF) ∨ 0xD3 ≤ r →
    exec (decodeXact r d) s = .next { s with hostRets := s.hostRets ++ [0x00] } ∧
    (r ≤ 0x7F → decodeXact r d = .wrReserved r d)

/-- The bytes of STATE and FLAGS: the codes of 10_state.md R34 and R35 and the flag bits of R36, reserved bits reading 0. -/
def Obligations.StatusBytesHoldTheirFields : Prop :=
  ∀ s : State,
    s.stateByte.getLsbD 7 = decide (s.st ∈ [St.seekIssued, .addrAccepted, .driveReady, .commandIssued]) ∧
    s.stateByte.getLsbD 6 = false ∧ s.stateByte.getLsbD 3 = false ∧
    s.stateByte.extractLsb' 0 3 = (match s.st with
      | .idle => 0 | .seekIssued => 1 | .addrAccepted => 2 | .driveReady => 3 | .commandIssued => 4 | .done => 5
      | .aborted => 6) ∧
    s.stateByte.extractLsb' 4 2 = (match s.reason with
      | .none => 0 | .addrAcceptTimeout => 1 | .readyTimeout => 2 | .completionTimeout => 3) ∧
    s.flags.byte.getLsbD 0 = s.flags.errBusy ∧ s.flags.byte.getLsbD 1 = s.flags.errIllegal ∧
    s.flags.byte.getLsbD 2 = s.flags.ready ∧ s.flags.byte.getLsbD 3 = s.flags.readyValid ∧
    s.flags.byte.extractLsb' 4 4 = 0

/-- Little-endian by register number (20_memory.md R56): in every multi-byte field the byte at the lowest register number
holds bits [7:0], and each next number the next 8 bits. -/
def Obligations.MultiByteFieldsAreLittleEndian : Prop :=
  ∀ s : State,
    s.h.t1 = s.hostReg 0x06 ++ s.hostReg 0x05 ∧ s.h.t2 = s.hostReg 0x08 ++ s.hostReg 0x07 ∧
    s.h.t3 = s.hostReg 0x0A ++ s.hostReg 0x09 ∧ s.h.seed16 = s.hostReg 0x0C ++ s.hostReg 0x0B ∧
    s.h.seed31.zeroExtend 32 =
      (s.hostReg 0x10 &&& 0x7F) ++ s.hostReg 0x0F ++ s.hostReg 0x0E ++ s.hostReg 0x0D ∧
    s.l16 = s.hostReg 0x84 ++ s.hostReg 0x83 ∧
    s.l31.zeroExtend 32 = s.hostReg 0x88 ++ s.hostReg 0x87 ++ s.hostReg 0x86 ++ s.hostReg 0x85 ∧
    s.wcnt = s.hostReg 0x8D ++ s.hostReg 0x8C

/-- Idempotence (20_memory.md, section 3): a second identical exchange of a register other than CMD completes and leaves the
same state, and returns d; a CMD write executed twice executes twice, so a second ADV16 1 moves LFSR16 again. -/
def Obligations.RepeatedTransactions : Prop :=
  (∀ (reg : HReg) (d : Byte) (s : State), reg ≠ .cmd →
    ∃ t, exec (decodeXact reg.number d) s = .next t ∧
      exec (decodeXact reg.number d) t = .next { t with hostRets := t.hostRets ++ [d] }) ∧
  (∀ s : State, ∃ t u, exec (decodeXact 0x00 0x10) s = .next t ∧ exec (decodeXact 0x00 0x10) t = .next u ∧
    u.l16 = step16 (step16 s.l16))

/-- A writable register changes only in the exchange of its own number and by SRST or a power-on reset (20_memory.md,
section 2; 10_state.md, section 2). -/
def Obligations.WritableRegistersChangeOnlyByExchange : Prop :=
  ∀ (s t : State) (reg : HReg), step s = .next t → t.h.get reg ≠ s.h.get reg →
    (∃ d es, s.events = .host reg.number d :: es) ∨ (∃ es, s.events = .host 0x00 0xFF :: es) ∨
    (∃ es, s.events = .powerOn :: es)

/-! ## Control commands, reset and the error flags -/

/-- NOP stores its code and does nothing else (43_control.md R140). -/
def Obligations.NopOnlyStoresItsCode : Prop :=
  encode .nop = 0x0000 ∧
  ∀ s : State, exec .nop s = .next { s with h := { s.h with cmd := 0x00 }, hostRets := s.hostRets ++ [s.h.cmd] }

/-- There are 210 reserved command codes; each is stored in CMD, sets ERR_ILLEGAL in every state and does nothing else
(30_encoding.md R75, 43_control.md R141). -/
def Obligations.ReservedCodesSetErrIllegal : Prop :=
  ((List.range 256).filter fun d => reservedCode (BitVec.ofNat 8 d)).length = 210 ∧
  ∀ (d : Byte) (s : State), reservedCode d = true →
    decodeXact 0x00 d = .reservedCmd d ∧
    exec (.reservedCmd d) s = .next { s with
      h := { s.h with cmd := d }, flags := { s.flags with errIllegal := true }, hostRets := s.hostRets ++ [s.h.cmd] }

/-- SRST completes in every state: every register of the block takes its reset value, CMD included, the previous code is
returned, and no device transaction is issued (43_control.md R142). That the model's own port fields stay otherwise is its form
(log entry 16). -/
def Obligations.SoftResetInstallsTheResetState : Prop :=
  encode .srst = 0x00FF ∧
  ∀ s : State, exec .srst s = .next { State.reset with
    events := s.events, replies := s.replies, draws := s.draws, devLog := s.devLog,
    hostRets := s.hostRets ++ [s.h.cmd] }

/-- The reset values the spec gives (70_reset_and_hazards.md, section 1; 10_state.md), the seeds being the OPEN parameters. -/
def Obligations.ResetLeavesTheSpecifiedValues : Prop :=
  let s := State.reset
  s.h.cmd = 0x00 ∧ s.h.cylLo = 0x00 ∧ s.h.cylHi = 0x00 ∧ s.h.head = 0x00 ∧ s.h.sector = 0x00 ∧
  s.h.devReg = 0x00 ∧ s.h.devData = 0x00 ∧
  s.h.t1Lo = 0x0A ∧ s.h.t1Hi = 0x00 ∧ s.h.t2Lo = 0xE8 ∧ s.h.t2Hi = 0x03 ∧ s.h.t3Lo = 0xE8 ∧ s.h.t3Hi = 0x03 ∧
  s.h.t1 = 10 ∧ s.h.t2 = 1000 ∧ s.h.t3 = 1000 ∧
  s.h.seed16 = Config.lfsr16Seed ∧ s.l16 = Config.lfsr16Seed ∧
  s.h.seed31 = Config.lfsr31Seed ∧ s.h.seed31B3.getLsbD 7 = false ∧ s.l31 = Config.lfsr31Seed ∧
  s.out = 0x00 ∧ s.stateByte = 0x00 ∧ s.st = .idle ∧ s.reason = .none ∧ s.flags.byte = 0x00 ∧
  s.devPrev = 0x00 ∧ s.lastS1 = 0x00 ∧ s.lastS2 = 0x00 ∧ s.wcnt = 0 ∧
  s.x.xop = .seek ∧ s.x.xcyl = 0x00 ∧ s.x.xrst = false ∧ s.x.xhead = 0x00 ∧ s.x.xsec = 0x00 ∧
  s.x.xt1 = 1 ∧ s.x.xt2 = 1 ∧ s.x.xt3 = 1

/-- A command that needs the engine idle, written while busy, sets ERR_BUSY and does nothing else beyond the exchange of CMD
(41_handshake.md R105; for ACK, READYCHK and DEVX their own rules). A start in DONE or ABORTED is accepted
without an ACK and replaces the reason. -/
def Obligations.BusyRefusesAndOutcomesAreReplaced : Prop :=
  (∀ (i : Instr) (code : Byte) (s : State),
    (i, code) ∈ [(Instr.xseek, (0x40 : Byte)), (.xread, 0x41), (.xwrite, 0x42), (.ack, 0x48), (.readychk, 0x50),
      (.devx, 0x60)] → s.busy = true →
    exec i s = .next { s with
      h := { s.h with cmd := code }, flags := { s.flags with errBusy := true }, hostRets := s.hostRets ++ [s.h.cmd] }) ∧
  (∀ (i : Instr) (s : State), i ∈ [Instr.xseek, .xread, .xwrite] → s.st = .done ∨ s.st = .aborted →
    Reply.silent ∉ s.replies → ∃ t, exec i s = .next t ∧ t.st = .seekIssued ∧ t.reason = .none)

/-- The causes of the two sticky flags are the only ones, and only ACK, SRST and a power-on reset clear them
(60_exceptions.md, section 1; 10_state.md, section 3). -/
def Obligations.StickyFlagsHaveTheirOnlyCauses : Prop :=
  ∀ s t : State, step s = .next t →
    let wrote (d : Byte) : Prop := ∃ es, s.events = .host 0x00 d :: es
    let cleared : Prop := (∃ es, s.events = .powerOn :: es) ∨ wrote 0xFF ∨ (wrote 0x48 ∧ s.busy = false)
    (t.flags.errBusy = true ↔
      (s.busy = true ∧ (wrote 0x40 ∨ wrote 0x41 ∨ wrote 0x42 ∨ wrote 0x48 ∨ wrote 0x50 ∨ wrote 0x60)) ∨
      (s.flags.errBusy = true ∧ ¬ cleared)) ∧
    (t.flags.errIllegal = true ↔
      (∃ d, reservedCode d = true ∧ wrote d) ∨ (s.flags.errIllegal = true ∧ ¬ cleared)) ∧
    (¬ (wrote 0x50 ∨ wrote 0xFF ∨ ∃ es, s.events = .powerOn :: es) →
      t.flags.ready = s.flags.ready ∧ t.flags.readyValid = s.flags.readyValid)

/-! ## The handshake -/

/-- `StartXfer` (41_handshake.md R104): with the engine not busy and the controller answering `p` and `q`, a start command
latches the operands and effective budgets, clears the reason and WCNT, sends the cylinder and the seek byte, and enters
SEEK_ISSUED; nothing else changes beyond the exchange of CMD. -/
def Obligations.StartCommandsLatchAndSeek : Prop :=
  ∀ (i : Instr) (op : XOp) (code p q : Byte) (s : State),
    (i, op, code) ∈ [(Instr.xseek, XOp.seek, (0x40 : Byte)), (.xread, .read, 0x41), (.xwrite, .write, 0x42)] →
    s.busy = false →
    let seek : Byte := if s.h.cylHi.getLsbD 7 then 0x11 else 0x01
    let budget (t : Word) : Word := if t = 0 then 1 else t
    controllerReply s 0 0x00 s.h.cylLo = some p → controllerReply s 1 0x03 seek = some q →
    encode i = code.zeroExtend 16 ∧
    exec i s = .next { s with
      h := { s.h with cmd := code }
      x := {
        xop := op, xcyl := s.h.cylLo, xrst := s.h.cylHi.getLsbD 7, xhead := s.h.head, xsec := s.h.sector,
        xt1 := budget (s.h.t1Hi ++ s.h.t1Lo), xt2 := budget (s.h.t2Hi ++ s.h.t2Lo), xt3 := budget (s.h.t3Hi ++ s.h.t3Lo) }
      reason := .none, wcnt := 0, st := .seekIssued
      replies := s.replies.drop 2, draws := s.draws + 2
      devLog := s.devLog ++ [⟨0x00, s.h.cylLo, p⟩, ⟨0x03, seek, q⟩]
      hostRets := s.hostRets ++ [s.h.cmd] }

/-- `PollAddrAccepted` (41_handshake.md R106), with the abort of R113 when the budget runs out. -/
def Obligations.TickInSeekIssuedPollsStatus1 : Prop :=
  ∀ (s : State) (v : Byte), s.st = .seekIssued → controllerReply s 0 0x80 0x00 = some v →
    let t : State := { s with
      replies := s.replies.tail, draws := s.draws + 1, devLog := s.devLog ++ [⟨0x80, 0x00, v⟩], lastS1 := v }
    (v.getLsbD 6 = true → tick s = .next { t with st := .addrAccepted, wcnt := 0 }) ∧
    (v.getLsbD 6 = false → s.wcnt + 1 ≠ s.x.xt1 → tick s = .next { t with wcnt := s.wcnt + 1 }) ∧
    (v.getLsbD 6 = false → s.wcnt + 1 = s.x.xt1 → ∀ c, controllerReply s 1 0x03 0x08 = some c →
      tick s = .next { t with
        wcnt := s.wcnt + 1, reason := .addrAcceptTimeout, st := .aborted, replies := s.replies.drop 2,
        draws := s.draws + 2, devLog := s.devLog ++ [⟨0x80, 0x00, v⟩, ⟨0x03, 0x08, c⟩] })

/-- `PollReady` (41_handshake.md R107), with the abort of R113 when the budget runs out. -/
def Obligations.TickInAddrAcceptedPollsReady : Prop :=
  ∀ (s : State) (v : Byte), s.st = .addrAccepted → controllerReply s 0 0x81 0x00 = some v →
    let t : State := { s with
      replies := s.replies.tail, draws := s.draws + 1, devLog := s.devLog ++ [⟨0x81, 0x00, v⟩], lastS2 := v }
    (v.getLsbD 0 = true → tick s = .next { t with st := .driveReady }) ∧
    (v.getLsbD 0 = false → s.wcnt + 1 ≠ s.x.xt2 → tick s = .next { t with wcnt := s.wcnt + 1 }) ∧
    (v.getLsbD 0 = false → s.wcnt + 1 = s.x.xt2 → ∀ c, controllerReply s 1 0x03 0x08 = some c →
      tick s = .next { t with
        wcnt := s.wcnt + 1, reason := .readyTimeout, st := .aborted, replies := s.replies.drop 2,
        draws := s.draws + 2, devLog := s.devLog ++ [⟨0x81, 0x00, v⟩, ⟨0x03, 0x08, c⟩] })

/-- `IssueCommand` (41_handshake.md R108). -/
def Obligations.TickInDriveReadyIssuesTheCommand : Prop :=
  ∀ s : State, s.st = .driveReady →
    (s.x.xop = .seek → tick s = .next { s with st := .done }) ∧
    (s.x.xop ≠ .seek → ∀ p q u : Byte,
      let c : Byte := if s.x.xop = .read then 0x02 else 0x04
      controllerReply s 0 0x01 s.x.xhead = some p → controllerReply s 1 0x02 s.x.xsec = some q →
      controllerReply s 2 0x03 c = some u →
      tick s = .next { s with
        st := .commandIssued, wcnt := 0, replies := s.replies.drop 3, draws := s.draws + 3,
        devLog := s.devLog ++ [⟨0x01, s.x.xhead, p⟩, ⟨0x02, s.x.xsec, q⟩, ⟨0x03, c, u⟩] })

/-- `PollCompletion` (41_handshake.md R109): Status2 bit 6 for READ and bit 7 for WRITE, with the abort of R113 when the
budget runs out. (COMMAND_ISSUED with XOP = SEEK is reached by no run: Obligations.InvariantKeptByEveryStep.) -/
def Obligations.TickInCommandIssuedPollsCompletion : Prop :=
  ∀ (s : State) (v : Byte), s.st = .commandIssued → s.x.xop ≠ .seek → controllerReply s 0 0x81 0x00 = some v →
    let b : Bool := if s.x.xop = .read then v.getLsbD 6 else v.getLsbD 7
    let t : State := { s with
      replies := s.replies.tail, draws := s.draws + 1, devLog := s.devLog ++ [⟨0x81, 0x00, v⟩], lastS2 := v }
    (b = false → tick s = .next { t with st := .done }) ∧
    (b = true → s.wcnt + 1 ≠ s.x.xt3 → tick s = .next { t with wcnt := s.wcnt + 1 }) ∧
    (b = true → s.wcnt + 1 = s.x.xt3 → ∀ c, controllerReply s 1 0x03 0x08 = some c →
      tick s = .next { t with
        wcnt := s.wcnt + 1, reason := .completionTimeout, st := .aborted, replies := s.replies.drop 2,
        draws := s.draws + 2, devLog := s.devLog ++ [⟨0x81, 0x00, v⟩, ⟨0x03, 0x08, c⟩] })

/-- What a TICK leaves alone, and its dispatch (41_handshake.md R102): it does not touch the LFSR state, OUT, FLAGS, DEVPREV
or any writable host register, nor the latches or what the host port returned. -/
def Obligations.TickTouchesOnlyTheEngine : Prop :=
  ∀ s : State,
    (s.st = .seekIssued → tick s = pollAddrAccepted s) ∧ (s.st = .addrAccepted → tick s = pollReady s) ∧
    (s.st = .driveReady → tick s = issueCommand s) ∧ (s.st = .commandIssued → tick s = pollCompletion s) ∧
    (s.st = .idle ∨ s.st = .done ∨ s.st = .aborted → tick s = .next s) ∧
    ∀ t, tick s = .next t → t = { s with
      st := t.st, reason := t.reason, lastS1 := t.lastS1, lastS2 := t.lastS2, wcnt := t.wcnt, replies := t.replies,
      draws := t.draws, devLog := t.devLog }

/-- The handshake state and its reason after a step, for every event: the table of 41_handshake.md R100 and nothing else.
An event in no row of the table leaves both as they are. -/
def Obligations.HandshakeTransitionsAreTheTable : Prop :=
  ∀ s t : State, step s = .next t →
    (s.events = [] → (t.st, t.reason) = (s.st, s.reason)) ∧
    (∀ es, s.events = .powerOn :: es → (t.st, t.reason) = (.idle, .none)) ∧
    (∀ r d es, s.events = .host r d :: es → r ≠ 0x00 → (t.st, t.reason) = (s.st, s.reason)) ∧
    (∀ d es, s.events = .host 0x00 d :: es → (t.st, t.reason) =
      if d = 0xFF then (.idle, .none)
      else if s.busy = false ∧ (d = 0x40 ∨ d = 0x41 ∨ d = 0x42) then (.seekIssued, .none)
      else if s.busy = false ∧ d = 0x48 then (.idle, .none)
      else (s.st, s.reason)) ∧
    (∀ es, s.events = .tick :: es → (t.st, t.reason) =
      match s.st with
      | .seekIssued =>
        if t.lastS1.getLsbD 6 then (.addrAccepted, s.reason)
        else if s.wcnt + 1 = s.x.xt1 then (.aborted, .addrAcceptTimeout) else (.seekIssued, s.reason)
      | .addrAccepted =>
        if t.lastS2.getLsbD 0 then (.driveReady, s.reason)
        else if s.wcnt + 1 = s.x.xt2 then (.aborted, .readyTimeout) else (.addrAccepted, s.reason)
      | .driveReady => (if s.x.xop = .seek then .done else .commandIssued, s.reason)
      | .commandIssued =>
        if (if s.x.xop = .read then t.lastS2.getLsbD 6 else t.lastS2.getLsbD 7) = false then (.done, s.reason)
        else if s.wcnt + 1 = s.x.xt3 then (.aborted, .completionTimeout) else (.commandIssued, s.reason)
      | .idle => (.idle, s.reason)
      | .done => (.done, s.reason)
      | .aborted => (.aborted, s.reason))

/-- DONE and ABORTED are terminal (41_handshake.md R114): a TICK leaves them as they are and issues nothing, and only ACK, a
start command, SRST and a power-on reset leave them or change the reason. -/
def Obligations.OutcomesAreTerminal : Prop :=
  ∀ s : State, s.st = .done ∨ s.st = .aborted →
    tick s = .next s ∧
    ∀ t, step s = .next t → t.st ≠ s.st ∨ t.reason ≠ s.reason ∨ t.devLog ≠ s.devLog →
      (∃ es, s.events = .powerOn :: es) ∨
      ∃ d es, s.events = .host 0x00 d :: es ∧
        (d ∈ ([0x40, 0x41, 0x42, 0x48, 0xFF] : List Byte) ∨
          (d ∈ ([0x50, 0x60] : List Byte) ∧ t.st = s.st ∧ t.reason = s.reason))

/-- ACK (41_handshake.md R115). -/
def Obligations.AckClearsOutcomeAndStickyErrors : Prop :=
  encode .ack = 0x0048 ∧
  ∀ s : State,
    (s.busy = false → exec .ack s = .next { s with
      h := { s.h with cmd := 0x48 }, st := .idle, reason := .none,
      flags := { s.flags with errBusy := false, errIllegal := false }, hostRets := s.hostRets ++ [s.h.cmd] }) ∧
    (s.busy = true → exec .ack s = .next { s with
      h := { s.h with cmd := 0x48 }, flags := { s.flags with errBusy := true }, hostRets := s.hostRets ++ [s.h.cmd] })

/-- READYCHK (41_handshake.md R116): READY is file-ready and high-density and not DC-low of Status1, and RWS ready of
Status2. -/
def Obligations.ReadychkReportsTheFourBits : Prop :=
  encode .readychk = 0x0050 ∧
  ∀ s : State,
    (s.busy = false → ∀ v w : Byte, controllerReply s 0 0x80 0x00 = some v → controllerReply s 1 0x81 0x00 = some w →
      exec .readychk s = .next { s with
        h := { s.h with cmd := 0x50 }, lastS1 := v, lastS2 := w,
        flags := { s.flags with
          ready := v.getLsbD 2 && v.getLsbD 3 && !v.getLsbD 4 && w.getLsbD 0, readyValid := true },
        replies := s.replies.drop 2, draws := s.draws + 2,
        devLog := s.devLog ++ [⟨0x80, 0x00, v⟩, ⟨0x81, 0x00, w⟩], hostRets := s.hostRets ++ [s.h.cmd] }) ∧
    (s.busy = true → exec .readychk s = .next { s with
      h := { s.h with cmd := 0x50 }, flags := { s.flags with errBusy := true }, hostRets := s.hostRets ++ [s.h.cmd] })

/-- DEVX (42_device_shim.md R134). -/
def Obligations.DevxPassesOneTransactionThrough : Prop :=
  encode .devx = 0x0060 ∧
  ∀ s : State,
    (s.busy = false → ∀ p : Byte, controllerReply s 0 s.h.devReg s.h.devData = some p →
      exec .devx s = .next { s with
        h := { s.h with cmd := 0x60 }, devPrev := p, replies := s.replies.tail, draws := s.draws + 1,
        devLog := s.devLog ++ [⟨s.h.devReg, s.h.devData, p⟩], hostRets := s.hostRets ++ [s.h.cmd] }) ∧
    (s.busy = true → exec .devx s = .next { s with
      h := { s.h with cmd := 0x60 }, flags := { s.flags with errBusy := true }, hostRets := s.hostRets ++ [s.h.cmd] })

/-! ## The whole machine -/

/-- The invariant of the handshake holds at reset. -/
def Obligations.InvariantHoldsAtReset : Prop := State.reset.Inv

/-- Every step keeps the invariant of the handshake engine, by itself and together with that of its port: a reason stands
exactly in ABORTED, the budgets are at least 1, and WCNT is below the budget of the stage that runs or succeeded and equal to
the budget of the stage that timed out; in COMMAND_ISSUED the device transactions end with the command byte and the failed
polls since (10_state.md, section 3; 41_handshake.md, sections 1 to 3). -/
def Obligations.InvariantKeptByEveryStep : Prop :=
  ∀ s t : State, step s = .next t → (s.EngineInv → t.EngineInv) ∧ (s.Inv → t.Inv)

/-- WCNT changes only by a reset, on entry to a wait stage, where it becomes 0, and by one for a failed poll, where it does
not wrap (10_state.md, section 3; 41_handshake.md, section 1). -/
def Obligations.WaitCounterCountsFailedPolls : Prop :=
  ∀ s t : State, s.countFits = true → step s = .next t → t.wcnt ≠ s.wcnt →
    (t.wcnt = 0 ∧ t.st.waits = true ∧ t.st ≠ s.st) ∨
    (t.wcnt = 0 ∧ (∃ es, s.events = .host 0x00 0xFF :: es ∨ s.events = .powerOn :: es)) ∨
    (t.wcnt.toNat = s.wcnt.toNat + 1 ∧ s.st.waits = true ∧ (t.st = s.st ∨ t.st = .aborted) ∧
      ∃ es v, s.events = .tick :: es ∧ controllerReply s 0 s.st.pollReg 0x00 = some v ∧ s.x.awaited s.st v = false)

/-- A wait stage whose awaited value never appears makes exactly XTk polls over XTk TICKs and then aborts, and a poll that
succeeds never times out, whatever WCNT is (41_handshake.md, section 1, for each of the three stages). -/
def Obligations.StageTimesOutAfterExactlyItsBudget : Prop :=
  (∀ (s : State) (v : Byte), s.st.waits = true → controllerReply s 0 s.st.pollReg 0x00 = some v →
    s.x.awaited s.st v = true → ∃ t, tick s = .next t ∧ t.st ≠ s.st ∧ t.st ≠ .aborted ∧ t.reason = s.reason) ∧
  ∀ (s : State) (es : List Event) (n : Nat),
    s.st.waits = true → s.wcnt = 0 → n = (s.x.budget s.st).toNat → 0 < n →
    s.events = List.replicate n .tick ++ es →
    (∀ k, k < n → ∃ v, controllerReply s k s.st.pollReg 0x00 = some v ∧ s.x.awaited s.st v = false) →
    (∃ c, controllerReply s n 0x03 0x08 = some c) →
    (∀ k, k < n → ∃ t, Host.Core.run Sys2Proof.core k s = .next t ∧ t.st = s.st ∧ t.wcnt.toNat = k ∧
      t.sent = s.sent ++ List.replicate k (s.st.pollReg, 0x00)) ∧
    ∃ t, Host.Core.run Sys2Proof.core n s = .next t ∧ t.st = .aborted ∧ t.reason = s.st.timeoutReason ∧
      t.wcnt = s.x.budget s.st ∧ t.x = s.x ∧ t.events = es ∧
      t.sent = s.sent ++ List.replicate n (s.st.pollReg, 0x00) ++ [(0x03, 0x08)]

/-- Scenario 4 (41_handshake.md, section 6): against a controller that never sets Address-Accepted a transaction is ABORTED
after exactly XT1 TICKs, the device port having seen the cylinder, the seek byte, XT1 polls of Status1 and one
command-clear: no head, sector, READ or WRITE. One TICK earlier it is still SEEK_ISSUED with WCNT = XT1 - 1. -/
def Obligations.SeekNeverAcceptedAbortsAfterXt1Ticks : Prop :=
  ∀ (i : Instr) (s : State) (es : List Event) (n : Nat),
    i ∈ [Instr.xseek, .xread, .xwrite] → s.busy = false →
    n = (if s.h.t1Hi ++ s.h.t1Lo = 0#16 then 1 else (s.h.t1Hi ++ s.h.t1Lo).toNat) →
    s.events = .host (regByte (encode i)) (dataByte (encode i)) :: (List.replicate n .tick ++ es) →
    let seek : Byte := if s.h.cylHi.getLsbD 7 then 0x11 else 0x01
    (∃ p, controllerReply s 0 0x00 s.h.cylLo = some p) → (∃ p, controllerReply s 1 0x03 seek = some p) →
    (∀ k, k < n → ∃ v, controllerReply s (2 + k) 0x80 0x00 = some v ∧ v.getLsbD 6 = false) →
    (∃ p, controllerReply s (2 + n) 0x03 0x08 = some p) →
    (∃ t, Host.Core.run Sys2Proof.core n s = .next t ∧ t.st = .seekIssued ∧ t.wcnt.toNat = n - 1) ∧
    ∃ t, Host.Core.run Sys2Proof.core (n + 1) s = .next t ∧ t.st = .aborted ∧ t.reason = .addrAcceptTimeout ∧
      t.wcnt.toNat = n ∧ t.events = es ∧
      t.sent = s.sent ++ [(0x00, s.h.cylLo), (0x03, seek)] ++ List.replicate n (0x80, 0x00) ++ [(0x03, 0x08)]

/-- A READ or WRITE whose stages succeed on polls a, b and c issues exactly this sequence of device transactions and reaches
DONE on TICK a + b + 1 + c, not before (41_handshake.md, section 6). -/
def Obligations.TransferSucceedsOnTickABC : Prop :=
  ∀ (i : Instr) (c0 : Byte) (bit : Nat) (s : State) (es : List Event) (a b c : Nat),
    (i, c0, bit) ∈ [(Instr.xread, (0x02 : Byte), 6), (.xwrite, 0x04, 7)] → s.busy = false →
    1 ≤ a → 1 ≤ b → 1 ≤ c →
    a ≤ (effectiveBudget (s.h.t1Hi ++ s.h.t1Lo)).toNat → b ≤ (effectiveBudget (s.h.t2Hi ++ s.h.t2Lo)).toNat →
    c ≤ (effectiveBudget (s.h.t3Hi ++ s.h.t3Lo)).toNat →
    s.events = .host (regByte (encode i)) (dataByte (encode i)) :: (List.replicate (a + b + 1 + c) .tick ++ es) →
    let seek : Byte := if s.h.cylHi.getLsbD 7 then 0x11 else 0x01
    (∃ p, controllerReply s 0 0x00 s.h.cylLo = some p) → (∃ p, controllerReply s 1 0x03 seek = some p) →
    (∀ k, k < a → ∃ v, controllerReply s (2 + k) 0x80 0x00 = some v ∧ v.getLsbD 6 = decide (k + 1 = a)) →
    (∀ k, k < b → ∃ v, controllerReply s (2 + a + k) 0x81 0x00 = some v ∧ v.getLsbD 0 = decide (k + 1 = b)) →
    (∃ p, controllerReply s (2 + a + b) 0x01 s.h.head = some p) →
    (∃ p, controllerReply s (2 + a + b + 1) 0x02 s.h.sector = some p) →
    (∃ p, controllerReply s (2 + a + b + 2) 0x03 c0 = some p) →
    (∀ k, k < c → ∃ v, controllerReply s (2 + a + b + 3 + k) 0x81 0x00 = some v ∧ v.getLsbD bit = !decide (k + 1 = c)) →
    (∀ m, 1 ≤ m → m < 1 + (a + b + 1 + c) → ∃ t, Host.Core.run Sys2Proof.core m s = .next t ∧ t.busy = true) ∧
    ∃ t, Host.Core.run Sys2Proof.core (1 + (a + b + 1 + c)) s = .next t ∧ t.st = .done ∧ t.events = es ∧
      t.sent = s.sent ++ [(0x00, s.h.cylLo), (0x03, seek)] ++ List.replicate a (0x80, 0x00) ++
        List.replicate b (0x81, 0x00) ++ [(0x01, s.h.head), (0x02, s.h.sector), (0x03, c0)] ++
        List.replicate c (0x81, 0x00)

/-- A SEEK transaction whose two stages succeed on polls a and b issues the first four groups only and reaches DONE on TICK
a + b + 1, not before (41_handshake.md, section 6). -/
def Obligations.SeekSucceedsOnTickAB : Prop :=
  ∀ (s : State) (es : List Event) (a b : Nat), s.busy = false → 1 ≤ a → 1 ≤ b →
    a ≤ (effectiveBudget (s.h.t1Hi ++ s.h.t1Lo)).toNat → b ≤ (effectiveBudget (s.h.t2Hi ++ s.h.t2Lo)).toNat →
    s.events = .host 0x00 0x40 :: (List.replicate (a + b + 1) .tick ++ es) →
    let seek : Byte := if s.h.cylHi.getLsbD 7 then 0x11 else 0x01
    (∃ p, controllerReply s 0 0x00 s.h.cylLo = some p) → (∃ p, controllerReply s 1 0x03 seek = some p) →
    (∀ k, k < a → ∃ v, controllerReply s (2 + k) 0x80 0x00 = some v ∧ v.getLsbD 6 = decide (k + 1 = a)) →
    (∀ k, k < b → ∃ v, controllerReply s (2 + a + k) 0x81 0x00 = some v ∧ v.getLsbD 0 = decide (k + 1 = b)) →
    (∀ m, 1 ≤ m → m < 1 + (a + b + 1) → ∃ t, Host.Core.run Sys2Proof.core m s = .next t ∧ t.busy = true) ∧
    ∃ t, Host.Core.run Sys2Proof.core (1 + (a + b + 1)) s = .next t ∧ t.st = .done ∧ t.events = es ∧
      t.sent = s.sent ++ [(0x00, s.h.cylLo), (0x03, seek)] ++ List.replicate a (0x80, 0x00) ++
        List.replicate b (0x81, 0x00)

/-- Entry to ABORTED (60_exceptions.md R151, R154; 41_handshake.md R113): it happens in a TICK of a wait stage, whose only
device transactions are the failed poll, whose byte is not the awaited one, and then the command-clear; the reason, its code
in STATE, WCNT = the budget and the recorded status byte are those of the table of R151; the latches and the host registers
stay, and no later TICK does anything. -/
def Obligations.AbortIssuesCommandClear : Prop :=
  ∀ s t : State, step s = .next t → t.st = .aborted → s.st ≠ .aborted →
    (∃ es, s.events = .tick :: es) ∧ s.st.waits = true ∧ t.x = s.x ∧ t.h = s.h ∧ tick t = .next t ∧
    ∃ v c : Byte, t.devLog = s.devLog ++ [⟨s.st.pollReg, 0x00, v⟩, ⟨0x03, 0x08, c⟩] ∧ s.x.awaited s.st v = false ∧
      ((s.st = .seekIssued ∧ v.getLsbD 6 = false ∧ t.reason = .addrAcceptTimeout ∧ t.stateByte = 0x16 ∧
          t.wcnt = s.x.xt1 ∧ t.lastS1 = v) ∨
       (s.st = .addrAccepted ∧ v.getLsbD 0 = false ∧ t.reason = .readyTimeout ∧ t.stateByte = 0x26 ∧
          t.wcnt = s.x.xt2 ∧ t.lastS2 = v) ∨
       (s.st = .commandIssued ∧ (if s.x.xop = .read then v.getLsbD 6 else v.getLsbD 7) = true ∧
          t.reason = .completionTimeout ∧ t.stateByte = 0x36 ∧ t.wcnt = s.x.xt3 ∧ t.lastS2 = v))

/-- L16, L31 and OUT change only by their own commands, SRST and a power-on reset (10_state.md, section 3). -/
def Obligations.GeneratorsChangeOnlyByTheirCommands : Prop :=
  ∀ s t : State, step s = .next t →
    let wrote (P : Byte → Prop) : Prop := (∃ es, s.events = .powerOn :: es) ∨
      ∃ d es, s.events = .host 0x00 d :: es ∧ (P d ∨ d = 0xFF)
    (t.l16 ≠ s.l16 → wrote fun d => d.extractLsb' 4 4 = 0x1 ∨ d = 0x30 ∨ d = 0x31 ∨ d = 0x38) ∧
    (t.l31 ≠ s.l31 → wrote fun d => d.extractLsb' 4 4 = 0x2 ∨ d = 0x32 ∨ d = 0x33 ∨ d = 0x39) ∧
    (t.out ≠ s.out → wrote fun d => d = 0x30 ∨ d = 0x31 ∨ d = 0x32 ∨ d = 0x33)

/-- The latches change only by a start command that is not refused, DEVPREV only by a DEVX that is not refused, and LAST_S1
and LAST_S2 only by the polls of the stages that read them and by READYCHK, beside SRST and a power-on reset (10_state.md,
section 3). -/
def Obligations.LatchesAndReplyRegistersChangeOnlyByTheirEvents : Prop :=
  ∀ s t : State, step s = .next t →
    let reset : Prop := (∃ es, s.events = .powerOn :: es) ∨ ∃ es, s.events = .host 0x00 0xFF :: es
    let wrote (d : Byte) : Prop := s.busy = false ∧ ∃ es, s.events = .host 0x00 d :: es
    let ticked : Prop := ∃ es, s.events = .tick :: es
    (t.x ≠ s.x → reset ∨ wrote 0x40 ∨ wrote 0x41 ∨ wrote 0x42) ∧
    (t.devPrev ≠ s.devPrev → reset ∨ wrote 0x60) ∧
    (t.lastS1 ≠ s.lastS1 → reset ∨ wrote 0x50 ∨ (ticked ∧ s.st = .seekIssued)) ∧
    (t.lastS2 ≠ s.lastS2 → reset ∨ wrote 0x50 ∨ (ticked ∧ (s.st = .addrAccepted ∨ s.st = .commandIssued)))

/-- While busy, every host transaction but SRST completes, issues no device transaction, and leaves the transaction in
progress as it is; SRST and a power-on reset end it (41_handshake.md R119). -/
def Obligations.OnlyResetCancelsATransaction : Prop :=
  ∀ s : State, s.busy = true →
    (∀ r d : Byte, ¬ (r = 0x00 ∧ d = 0xFF) →
      ∃ t, exec (decodeXact r d) s = .next t ∧ t.engine = s.engine ∧ t.devPrev = s.devPrev ∧ t.events = s.events) ∧
    (∃ t, exec (decodeXact 0x00 0xFF) s = .next t ∧ t.st = .idle ∧ t.devLog = s.devLog) ∧
    (∃ t, powerOn s = .next t ∧ t.st = .idle ∧ t.devLog = s.devLog)

/-- A transaction in progress reads no host register: the same TICK from a state with any other host registers ends with the
same handshake engine, and leaves those registers (20_memory.md, section 5; 70_reset_and_hazards.md, section 3). -/
def Obligations.TickReadsNoHostRegister : Prop :=
  ∀ (s t : State) (h : HostRegs), tick s = .next t → tick { s with h := h } = .next { t with h := h }

/-- Bystanders never disturb a transaction: over any list of TICKs, register exchanges,
reads, reserved numbers, LFSR commands, NOPs and reserved codes, if the run completes, the TICKs alone complete too, with
the same handshake engine and the same device transactions (20_memory.md, section 5; 40_lfsr.md, section 2;
70_reset_and_hazards.md, section 3). -/
def Obligations.BystandersDoNotDisturbTheHandshake : Prop :=
  ∀ (es : List Event) (s t : State), (∀ e ∈ es, e.bystander = true) → runEvents es s = .next t →
    ∃ u, runEvents (es.filter fun e => e = .tick) s = .next u ∧ u.engine = t.engine

/-- The device port (20_memory.md, sections 4 and 5): a step appends at most three device transactions to those before it,
each with the byte the controller answered to it, in order, and nothing is reordered, merged or repeated. -/
def Obligations.DeviceTransactionsAreAppendedInOrder : Prop :=
  ∀ s t : State, step s = .next t →
    ∃ new : List DevXact, t.devLog = s.devLog ++ new ∧ new.length ≤ 3 ∧ t.draws = s.draws + new.length ∧
      t.replies = s.replies.drop new.length ∧
      ∀ k (e : DevXact), new[k]? = some e → controllerReply s k e.reg e.data = some e.reply

/-- The block's own sequences address only the six device registers of 42_device_shim.md, section 1, write to DEV_COMMAND only
the bytes 0x01, 0x11, 0x02, 0x04 and 0x08, and read the status registers with data 0x00; only DEVX sends anything else. -/
def Obligations.OwnSequencesUseOnlyTheSixRegisters : Prop :=
  ∀ (s t : State) (new : List DevXact), step s = .next t → t.devLog = s.devLog ++ new →
    (¬ ∃ es, s.events = .host 0x00 0x60 :: es) →
    ∀ e ∈ new,
      e.reg ∈ ([0x00, 0x01, 0x02, 0x03, 0x80, 0x81] : List Byte) ∧
      (e.reg = 0x03 → e.data ∈ ([0x01, 0x11, 0x02, 0x04, 0x08] : List Byte)) ∧
      (e.reg = 0x80 ∨ e.reg = 0x81 → e.data = 0x00)

/-- A step completes whenever the controller answers; it never ends in a refusal, and its only fault is the stuck step of a
controller that never answers (20_memory.md R63), which every issuing step shows on its first transaction. -/
def Obligations.OnlyASilentControllerStopsAStep : Prop :=
  (∀ s : State, s.ControllerAnswers → ∃ t, step s = .next t) ∧
  (∀ (s : State) (q : Refusal), step s ≠ .refused q) ∧
  (∀ (s : State) (f : Fault), step s = .fault f → f = .controllerSilent ∧ Reply.silent ∈ s.replies) ∧
  (∀ (s : State) (rs : List Reply), s.replies = .silent :: rs →
    (s.st.waits = true ∨ (s.st = .driveReady ∧ s.x.xop ≠ .seek) → tick s = .fault .controllerSilent) ∧
    (s.busy = false → ∀ i ∈ [Instr.xseek, .xread, .xwrite, .readychk, .devx], exec i s = .fault .controllerSilent))

/-- Against a controller that keeps its duties, the in-progress duty (d) of 42_device_shim.md, section 4, among them, a READ or
WRITE is DONE only after the operation that its own command byte began has completed: that byte is the device transaction
number `i`, all later ones are polls of Status2, and at the last poll `i` has ended (70_reset_and_hazards.md, section 3; an
environment assumption, log entry 18). The other side: without the duty the block can report DONE early. -/
def Obligations.DoneOnlyAfterTheOperationEnded : Prop :=
  (∀ (s t : State) (views : List DriveView), s.portFits → tick s = .next t → s.st = .commandIssued → t.st = .done →
    KeepsDuties t.devLog views →
    ∃ i c f, t.devLog[i]? = some c ∧ c.commands (if s.x.xop = .read then 0x02 else 0x04) ∧
      (∀ k e, i < k → t.devLog[k]? = some e → e.reg = 0x81) ∧ views.getLast? = some f ∧ i ∈ f.ended) ∧
  (∃ (s t : State) (views : List DriveView), s.Inv ∧ tick s = .next t ∧ s.st = .commandIssued ∧ t.st = .done ∧
    views.length = t.devLog.length ∧ ∀ f ∈ views, f.ended = [])

/-- A torn read of WCNT (70_reset_and_hazards.md, section 3): a TICK between the two byte reads lets the host see 0x01FF, a
value WCNT held neither before nor after. -/
def Obligations.WaitCounterCanTear : Prop :=
  ∃ s t : State, s.wcnt = 0x00FF ∧ s.events = [.host 0x8C 0x00, .tick, .host 0x8D 0x00] ∧ s.hostRets = [] ∧
    Host.Core.run Sys2Proof.core 3 s = .next t ∧ t.hostRets = [0xFF, 0x01] ∧ t.wcnt = 0x0100
end

