-- ==== Sys2Proof/Laws/Encoding.lean ====
section
/-! SUPPORT. The halves of a host transaction word, and what a host transaction can decode to, said once. -/

namespace Sys2Proof

theorem hostWord_halves (x : Word) : hostWord (regByte x) (dataByte x) = x := by
  apply BitVec.eq_of_getLsbD_eq
  intro i hi
  show (BitVec.extractLsb' 8 8 x ++ BitVec.extractLsb' 0 8 x : BitVec (8 + 8)).getLsbD i = x.getLsbD i
  rw [BitVec.getLsbD_append]
  by_cases h : i < 8
  · simp [h]
  · simp only [h, if_false, BitVec.getLsbD_extractLsb']
    rw [decide_eq_true (by omega), Bool.true_and]
    congr 1
    omega

@[simp] theorem regByte_hostWord (r d : Byte) : regByte (hostWord r d) = r := by
  apply BitVec.eq_of_getLsbD_eq
  intro i hi
  show ((r ++ d : BitVec (8 + 8)).extractLsb' 8 8).getLsbD i = r.getLsbD i
  rw [BitVec.getLsbD_extractLsb', BitVec.getLsbD_append, decide_eq_true hi, if_neg (by omega), Bool.true_and]
  congr 1
  omega

@[simp] theorem dataByte_hostWord (r d : Byte) : dataByte (hostWord r d) = d := by
  apply BitVec.eq_of_getLsbD_eq
  intro i hi
  show ((r ++ d : BitVec (8 + 8)).extractLsb' 0 8).getLsbD i = d.getLsbD i
  rw [BitVec.getLsbD_extractLsb', BitVec.getLsbD_append, decide_eq_true hi, if_pos (by omega), Bool.true_and]
  congr 1
  omega

@[simp] theorem HReg.ofNumber?_number (reg : HReg) : HReg.ofNumber? reg.number = some reg := by
  cases reg <;> decide

theorem HReg.number_of_ofNumber? {r : Byte} {reg : HReg} (h : HReg.ofNumber? r = some reg) : reg.number = r := by
  revert r reg
  decide

theorem decodeXact_cmd (d : Byte) : decodeXact 0x00 d = decodeCmd d := rfl

theorem decodeXact_number (reg : HReg) (d : Byte) : decodeXact reg.number d = decodeExchange d reg := by
  cases reg <;> rfl

/-- What a CMD write decodes to, each case with its code. -/
inductive CmdCase (d : Byte) : Prop where
  | adv16 (n : BitVec 5) (c : d = advanceCode 0x1 n) (w : advanceCount n = true) (i : decodeCmd d = .adv16 n)
  | adv31 (n : BitVec 5) (c : d = advanceCode 0x2 n) (w : advanceCount n = true) (i : decodeCmd d = .adv31 n)
  | nop (c : d = 0x00) (i : decodeCmd d = .nop)
  | byte16_8 (c : d = 0x30) (i : decodeCmd d = .byte16_8)
  | byte16_16 (c : d = 0x31) (i : decodeCmd d = .byte16_16)
  | byte31_8 (c : d = 0x32) (i : decodeCmd d = .byte31_8)
  | byte31_16 (c : d = 0x33) (i : decodeCmd d = .byte31_16)
  | seed16 (c : d = 0x38) (i : decodeCmd d = .seed16)
  | seed31 (c : d = 0x39) (i : decodeCmd d = .seed31)
  | xseek (c : d = 0x40) (i : decodeCmd d = .xseek)
  | xread (c : d = 0x41) (i : decodeCmd d = .xread)
  | xwrite (c : d = 0x42) (i : decodeCmd d = .xwrite)
  | ack (c : d = 0x48) (i : decodeCmd d = .ack)
  | readychk (c : d = 0x50) (i : decodeCmd d = .readychk)
  | devx (c : d = 0x60) (i : decodeCmd d = .devx)
  | srst (c : d = 0xFF) (i : decodeCmd d = .srst)
  | reserved (c : reservedCode d = true) (i : decodeCmd d = .reservedCmd d)

/-- The codes of a group with an advance count. -/
theorem codeCount_spec (d : Byte) :
    (codeGroup d = 0x1 → d = advanceCode 0x1 (codeCount d) ∧ advanceCount (codeCount d) = true) ∧
    (codeGroup d = 0x2 → d = advanceCode 0x2 (codeCount d) ∧ advanceCount (codeCount d) = true) := by
  revert d
  decide

/-- What is in no row of the command map is reserved. -/
theorem reservedCode_of_ne {d : Byte} (h1 : codeGroup d ≠ 0x1) (h2 : codeGroup d ≠ 0x2)
    (h : d ∉ ([0x00, 0x30, 0x31, 0x32, 0x33, 0x38, 0x39, 0x40, 0x41, 0x42, 0x48, 0x50, 0x60, 0xFF] : List Byte)) :
    reservedCode d = true := by
  revert d
  decide

theorem cmdCase (d : Byte) : CmdCase d := by
  by_cases h0 : d = 0x00
  · exact .nop h0 (by simp only [decodeCmd, h0, if_true])
  by_cases h1 : codeGroup d = 0x1
  · exact .adv16 (codeCount d) ((codeCount_spec d).1 h1).1 ((codeCount_spec d).1 h1).2 (by simp only [decodeCmd, h0, h1, if_true, if_false])
  by_cases h2 : codeGroup d = 0x2
  · exact .adv31 (codeCount d) ((codeCount_spec d).2 h2).1 ((codeCount_spec d).2 h2).2 
      (by rw [decodeCmd, if_neg h0, if_neg h1, if_pos h2])
  by_cases h30 : d = 0x30
  · exact .byte16_8 h30 (by rw [h30]; rfl)
  by_cases h31 : d = 0x31
  · exact .byte16_16 h31 (by rw [h31]; rfl)
  by_cases h32 : d = 0x32
  · exact .byte31_8 h32 (by rw [h32]; rfl)
  by_cases h33 : d = 0x33
  · exact .byte31_16 h33 (by rw [h33]; rfl)
  by_cases h38 : d = 0x38
  · exact .seed16 h38 (by rw [h38]; rfl)
  by_cases h39 : d = 0x39
  · exact .seed31 h39 (by rw [h39]; rfl)
  by_cases h40 : d = 0x40
  · exact .xseek h40 (by rw [h40]; rfl)
  by_cases h41 : d = 0x41
  · exact .xread h41 (by rw [h41]; rfl)
  by_cases h42 : d = 0x42
  · exact .xwrite h42 (by rw [h42]; rfl)
  by_cases h48 : d = 0x48
  · exact .ack h48 (by rw [h48]; rfl)
  by_cases h50 : d = 0x50
  · exact .readychk h50 (by rw [h50]; rfl)
  by_cases h60 : d = 0x60
  · exact .devx h60 (by rw [h60]; rfl)
  by_cases hFF : d = 0xFF
  · exact .srst hFF (by rw [hFF]; rfl)
  refine .reserved (reservedCode_of_ne h1 h2 ?_) ?_
  · simp only [List.mem_cons, List.not_mem_nil, or_false, not_or]
    exact ⟨h0, h30, h31, h32, h33, h38, h39, h40, h41, h42, h48, h50, h60, hFF⟩
  · simp only [decodeCmd, h0, h1, h2, h30, h31, h32, h33, h38, h39, h40, h41, h42, h48, h50, h60, hFF, if_false]

/-- What a host transaction can be: a CMD write, the exchange of another writable register, a reserved writable number or
a read. -/
inductive XactCase (r d : Byte) : Prop where
  | cmd (e : r = 0x00) (c : CmdCase d) (i : decodeXact r d = decodeCmd d)
  | write (reg : HReg) (n : reg ≠ .cmd) (e : r = reg.number) (i : decodeXact r d = decodeExchange d reg)
  | reserved (c : reservedWritable r = true) (i : decodeXact r d = .wrReserved r d)
  | read (c : readOnlyNumber r = true) (i : decodeXact r d = .rd r d)

theorem xactCase (r d : Byte) : XactCase r d := by
  by_cases hr : r < Config.hostRoThreshold
  · cases e : HReg.ofNumber? r with
    | none =>
      refine .reserved ?_ (by simp [decodeXact, hr, e])
      revert e hr
      revert r
      decide
    | some reg =>
      have := HReg.number_of_ofNumber? e
      subst this
      by_cases n : reg = .cmd
      · subst n
        exact .cmd rfl (cmdCase d) rfl
      · exact .write reg n rfl (decodeXact_number reg d)
  · exact .read (by simpa [readOnlyNumber] using hr) (by simp [decodeXact, hr])

end Sys2Proof
end

