-- ==== Sys2Proof/Laws/State.lean ====
section
/-! SUPPORT. One lemma per field of State for each named update of it. -/

namespace Sys2Proof.Machine

@[simp] theorem storeCmd_eq (d : Byte) (s : State) : storeCmd d s = exchange .cmd d s := rfl

@[simp] theorem State.reset_h : State.reset.h = HostRegs.resetWith Config.lfsr16Seed Config.lfsr31Seed := rfl
@[simp] theorem State.reset_l16 : State.reset.l16 = Config.lfsr16Seed := rfl
@[simp] theorem State.reset_l31 : State.reset.l31 = Config.lfsr31Seed := rfl
@[simp] theorem State.reset_out : State.reset.out = 0x00 := rfl
@[simp] theorem State.reset_st : State.reset.st = .idle := rfl
@[simp] theorem State.reset_reason : State.reset.reason = .none := rfl
@[simp] theorem State.reset_flags : State.reset.flags = { errBusy := false, errIllegal := false, ready := false, readyValid := false } := rfl
@[simp] theorem State.reset_devPrev : State.reset.devPrev = 0x00 := rfl
@[simp] theorem State.reset_lastS1 : State.reset.lastS1 = 0x00 := rfl
@[simp] theorem State.reset_lastS2 : State.reset.lastS2 = 0x00 := rfl
@[simp] theorem State.reset_wcnt : State.reset.wcnt = 0 := rfl
@[simp] theorem State.reset_x : State.reset.x = Latches.reset := rfl
@[simp] theorem State.reset_events : State.reset.events = [] := rfl
@[simp] theorem State.reset_replies : State.reset.replies = [] := rfl
@[simp] theorem State.reset_draws : State.reset.draws = 0 := rfl
@[simp] theorem State.reset_devLog : State.reset.devLog = [] := rfl
@[simp] theorem State.reset_hostRets : State.reset.hostRets = [] := rfl

@[simp] theorem hostReturn_h (p : Byte) (s : State) : (hostReturn p s).h = s.h := rfl
@[simp] theorem hostReturn_l16 (p : Byte) (s : State) : (hostReturn p s).l16 = s.l16 := rfl
@[simp] theorem hostReturn_l31 (p : Byte) (s : State) : (hostReturn p s).l31 = s.l31 := rfl
@[simp] theorem hostReturn_out (p : Byte) (s : State) : (hostReturn p s).out = s.out := rfl
@[simp] theorem hostReturn_st (p : Byte) (s : State) : (hostReturn p s).st = s.st := rfl
@[simp] theorem hostReturn_reason (p : Byte) (s : State) : (hostReturn p s).reason = s.reason := rfl
@[simp] theorem hostReturn_flags (p : Byte) (s : State) : (hostReturn p s).flags = s.flags := rfl
@[simp] theorem hostReturn_devPrev (p : Byte) (s : State) : (hostReturn p s).devPrev = s.devPrev := rfl
@[simp] theorem hostReturn_lastS1 (p : Byte) (s : State) : (hostReturn p s).lastS1 = s.lastS1 := rfl
@[simp] theorem hostReturn_lastS2 (p : Byte) (s : State) : (hostReturn p s).lastS2 = s.lastS2 := rfl
@[simp] theorem hostReturn_wcnt (p : Byte) (s : State) : (hostReturn p s).wcnt = s.wcnt := rfl
@[simp] theorem hostReturn_x (p : Byte) (s : State) : (hostReturn p s).x = s.x := rfl
@[simp] theorem hostReturn_events (p : Byte) (s : State) : (hostReturn p s).events = s.events := rfl
@[simp] theorem hostReturn_replies (p : Byte) (s : State) : (hostReturn p s).replies = s.replies := rfl
@[simp] theorem hostReturn_draws (p : Byte) (s : State) : (hostReturn p s).draws = s.draws := rfl
@[simp] theorem hostReturn_devLog (p : Byte) (s : State) : (hostReturn p s).devLog = s.devLog := rfl
@[simp] theorem hostReturn_hostRets (p : Byte) (s : State) : (hostReturn p s).hostRets = s.hostRets ++ [p] := rfl

@[simp] theorem exchange_h (reg : HReg) (v : Byte) (s : State) : (exchange reg v s).h = s.h.set v reg := rfl
@[simp] theorem exchange_l16 (reg : HReg) (v : Byte) (s : State) : (exchange reg v s).l16 = s.l16 := rfl
@[simp] theorem exchange_l31 (reg : HReg) (v : Byte) (s : State) : (exchange reg v s).l31 = s.l31 := rfl
@[simp] theorem exchange_out (reg : HReg) (v : Byte) (s : State) : (exchange reg v s).out = s.out := rfl
@[simp] theorem exchange_st (reg : HReg) (v : Byte) (s : State) : (exchange reg v s).st = s.st := rfl
@[simp] theorem exchange_reason (reg : HReg) (v : Byte) (s : State) : (exchange reg v s).reason = s.reason := rfl
@[simp] theorem exchange_flags (reg : HReg) (v : Byte) (s : State) : (exchange reg v s).flags = s.flags := rfl
@[simp] theorem exchange_devPrev (reg : HReg) (v : Byte) (s : State) : (exchange reg v s).devPrev = s.devPrev := rfl
@[simp] theorem exchange_lastS1 (reg : HReg) (v : Byte) (s : State) : (exchange reg v s).lastS1 = s.lastS1 := rfl
@[simp] theorem exchange_lastS2 (reg : HReg) (v : Byte) (s : State) : (exchange reg v s).lastS2 = s.lastS2 := rfl
@[simp] theorem exchange_wcnt (reg : HReg) (v : Byte) (s : State) : (exchange reg v s).wcnt = s.wcnt := rfl
@[simp] theorem exchange_x (reg : HReg) (v : Byte) (s : State) : (exchange reg v s).x = s.x := rfl
@[simp] theorem exchange_events (reg : HReg) (v : Byte) (s : State) : (exchange reg v s).events = s.events := rfl
@[simp] theorem exchange_replies (reg : HReg) (v : Byte) (s : State) : (exchange reg v s).replies = s.replies := rfl
@[simp] theorem exchange_draws (reg : HReg) (v : Byte) (s : State) : (exchange reg v s).draws = s.draws := rfl
@[simp] theorem exchange_devLog (reg : HReg) (v : Byte) (s : State) : (exchange reg v s).devLog = s.devLog := rfl
@[simp] theorem exchange_hostRets (reg : HReg) (v : Byte) (s : State) : (exchange reg v s).hostRets = s.hostRets ++ [s.h.get reg] := rfl

@[simp] theorem recordXact_h (r d p : Byte) (s : State) : (recordXact r d p s).h = s.h := rfl
@[simp] theorem recordXact_l16 (r d p : Byte) (s : State) : (recordXact r d p s).l16 = s.l16 := rfl
@[simp] theorem recordXact_l31 (r d p : Byte) (s : State) : (recordXact r d p s).l31 = s.l31 := rfl
@[simp] theorem recordXact_out (r d p : Byte) (s : State) : (recordXact r d p s).out = s.out := rfl
@[simp] theorem recordXact_st (r d p : Byte) (s : State) : (recordXact r d p s).st = s.st := rfl
@[simp] theorem recordXact_reason (r d p : Byte) (s : State) : (recordXact r d p s).reason = s.reason := rfl
@[simp] theorem recordXact_flags (r d p : Byte) (s : State) : (recordXact r d p s).flags = s.flags := rfl
@[simp] theorem recordXact_devPrev (r d p : Byte) (s : State) : (recordXact r d p s).devPrev = s.devPrev := rfl
@[simp] theorem recordXact_lastS1 (r d p : Byte) (s : State) : (recordXact r d p s).lastS1 = s.lastS1 := rfl
@[simp] theorem recordXact_lastS2 (r d p : Byte) (s : State) : (recordXact r d p s).lastS2 = s.lastS2 := rfl
@[simp] theorem recordXact_wcnt (r d p : Byte) (s : State) : (recordXact r d p s).wcnt = s.wcnt := rfl
@[simp] theorem recordXact_x (r d p : Byte) (s : State) : (recordXact r d p s).x = s.x := rfl
@[simp] theorem recordXact_events (r d p : Byte) (s : State) : (recordXact r d p s).events = s.events := rfl
@[simp] theorem recordXact_replies (r d p : Byte) (s : State) : (recordXact r d p s).replies = s.replies.tail := rfl
@[simp] theorem recordXact_draws (r d p : Byte) (s : State) : (recordXact r d p s).draws = s.draws + 1 := rfl
@[simp] theorem recordXact_devLog (r d p : Byte) (s : State) : (recordXact r d p s).devLog = s.devLog ++ [{ reg := r, data := d, reply := p }] := rfl
@[simp] theorem recordXact_hostRets (r d p : Byte) (s : State) : (recordXact r d p s).hostRets = s.hostRets := rfl

@[simp] theorem setErr_h (e : ErrFlag) (s : State) : (setErr e s).h = s.h := rfl
@[simp] theorem setErr_l16 (e : ErrFlag) (s : State) : (setErr e s).l16 = s.l16 := rfl
@[simp] theorem setErr_l31 (e : ErrFlag) (s : State) : (setErr e s).l31 = s.l31 := rfl
@[simp] theorem setErr_out (e : ErrFlag) (s : State) : (setErr e s).out = s.out := rfl
@[simp] theorem setErr_st (e : ErrFlag) (s : State) : (setErr e s).st = s.st := rfl
@[simp] theorem setErr_reason (e : ErrFlag) (s : State) : (setErr e s).reason = s.reason := rfl
@[simp] theorem setErr_flags (e : ErrFlag) (s : State) : (setErr e s).flags = s.flags.raise e := rfl
@[simp] theorem setErr_devPrev (e : ErrFlag) (s : State) : (setErr e s).devPrev = s.devPrev := rfl
@[simp] theorem setErr_lastS1 (e : ErrFlag) (s : State) : (setErr e s).lastS1 = s.lastS1 := rfl
@[simp] theorem setErr_lastS2 (e : ErrFlag) (s : State) : (setErr e s).lastS2 = s.lastS2 := rfl
@[simp] theorem setErr_wcnt (e : ErrFlag) (s : State) : (setErr e s).wcnt = s.wcnt := rfl
@[simp] theorem setErr_x (e : ErrFlag) (s : State) : (setErr e s).x = s.x := rfl
@[simp] theorem setErr_events (e : ErrFlag) (s : State) : (setErr e s).events = s.events := rfl
@[simp] theorem setErr_replies (e : ErrFlag) (s : State) : (setErr e s).replies = s.replies := rfl
@[simp] theorem setErr_draws (e : ErrFlag) (s : State) : (setErr e s).draws = s.draws := rfl
@[simp] theorem setErr_devLog (e : ErrFlag) (s : State) : (setErr e s).devLog = s.devLog := rfl
@[simp] theorem setErr_hostRets (e : ErrFlag) (s : State) : (setErr e s).hostRets = s.hostRets := rfl

@[simp] theorem acknowledge_h (s : State) : (acknowledge s).h = s.h := rfl
@[simp] theorem acknowledge_l16 (s : State) : (acknowledge s).l16 = s.l16 := rfl
@[simp] theorem acknowledge_l31 (s : State) : (acknowledge s).l31 = s.l31 := rfl
@[simp] theorem acknowledge_out (s : State) : (acknowledge s).out = s.out := rfl
@[simp] theorem acknowledge_st (s : State) : (acknowledge s).st = .idle := rfl
@[simp] theorem acknowledge_reason (s : State) : (acknowledge s).reason = .none := rfl
@[simp] theorem acknowledge_flags (s : State) : (acknowledge s).flags = s.flags.acknowledge := rfl
@[simp] theorem acknowledge_devPrev (s : State) : (acknowledge s).devPrev = s.devPrev := rfl
@[simp] theorem acknowledge_lastS1 (s : State) : (acknowledge s).lastS1 = s.lastS1 := rfl
@[simp] theorem acknowledge_lastS2 (s : State) : (acknowledge s).lastS2 = s.lastS2 := rfl
@[simp] theorem acknowledge_wcnt (s : State) : (acknowledge s).wcnt = s.wcnt := rfl
@[simp] theorem acknowledge_x (s : State) : (acknowledge s).x = s.x := rfl
@[simp] theorem acknowledge_events (s : State) : (acknowledge s).events = s.events := rfl
@[simp] theorem acknowledge_replies (s : State) : (acknowledge s).replies = s.replies := rfl
@[simp] theorem acknowledge_draws (s : State) : (acknowledge s).draws = s.draws := rfl
@[simp] theorem acknowledge_devLog (s : State) : (acknowledge s).devLog = s.devLog := rfl
@[simp] theorem acknowledge_hostRets (s : State) : (acknowledge s).hostRets = s.hostRets := rfl

@[simp] theorem latchStart_h (op : XOp) (s : State) : (latchStart op s).h = s.h := rfl
@[simp] theorem latchStart_l16 (op : XOp) (s : State) : (latchStart op s).l16 = s.l16 := rfl
@[simp] theorem latchStart_l31 (op : XOp) (s : State) : (latchStart op s).l31 = s.l31 := rfl
@[simp] theorem latchStart_out (op : XOp) (s : State) : (latchStart op s).out = s.out := rfl
@[simp] theorem latchStart_st (op : XOp) (s : State) : (latchStart op s).st = s.st := rfl
@[simp] theorem latchStart_reason (op : XOp) (s : State) : (latchStart op s).reason = .none := rfl
@[simp] theorem latchStart_flags (op : XOp) (s : State) : (latchStart op s).flags = s.flags := rfl
@[simp] theorem latchStart_devPrev (op : XOp) (s : State) : (latchStart op s).devPrev = s.devPrev := rfl
@[simp] theorem latchStart_lastS1 (op : XOp) (s : State) : (latchStart op s).lastS1 = s.lastS1 := rfl
@[simp] theorem latchStart_lastS2 (op : XOp) (s : State) : (latchStart op s).lastS2 = s.lastS2 := rfl
@[simp] theorem latchStart_wcnt (op : XOp) (s : State) : (latchStart op s).wcnt = 0 := rfl
@[simp] theorem latchStart_x (op : XOp) (s : State) : (latchStart op s).x = s.h.latch op := rfl
@[simp] theorem latchStart_events (op : XOp) (s : State) : (latchStart op s).events = s.events := rfl
@[simp] theorem latchStart_replies (op : XOp) (s : State) : (latchStart op s).replies = s.replies := rfl
@[simp] theorem latchStart_draws (op : XOp) (s : State) : (latchStart op s).draws = s.draws := rfl
@[simp] theorem latchStart_devLog (op : XOp) (s : State) : (latchStart op s).devLog = s.devLog := rfl
@[simp] theorem latchStart_hostRets (op : XOp) (s : State) : (latchStart op s).hostRets = s.hostRets := rfl

@[simp] theorem resetState_h (s : State) : (resetState s).h = State.reset.h := rfl
@[simp] theorem resetState_l16 (s : State) : (resetState s).l16 = State.reset.l16 := rfl
@[simp] theorem resetState_l31 (s : State) : (resetState s).l31 = State.reset.l31 := rfl
@[simp] theorem resetState_out (s : State) : (resetState s).out = State.reset.out := rfl
@[simp] theorem resetState_st (s : State) : (resetState s).st = State.reset.st := rfl
@[simp] theorem resetState_reason (s : State) : (resetState s).reason = State.reset.reason := rfl
@[simp] theorem resetState_flags (s : State) : (resetState s).flags = State.reset.flags := rfl
@[simp] theorem resetState_devPrev (s : State) : (resetState s).devPrev = State.reset.devPrev := rfl
@[simp] theorem resetState_lastS1 (s : State) : (resetState s).lastS1 = State.reset.lastS1 := rfl
@[simp] theorem resetState_lastS2 (s : State) : (resetState s).lastS2 = State.reset.lastS2 := rfl
@[simp] theorem resetState_wcnt (s : State) : (resetState s).wcnt = State.reset.wcnt := rfl
@[simp] theorem resetState_x (s : State) : (resetState s).x = State.reset.x := rfl
@[simp] theorem resetState_events (s : State) : (resetState s).events = s.events := rfl
@[simp] theorem resetState_replies (s : State) : (resetState s).replies = s.replies := rfl
@[simp] theorem resetState_draws (s : State) : (resetState s).draws = s.draws := rfl
@[simp] theorem resetState_devLog (s : State) : (resetState s).devLog = s.devLog := rfl
@[simp] theorem resetState_hostRets (s : State) : (resetState s).hostRets = s.hostRets := rfl

@[simp] theorem advance16_h (k : Nat) (s : State) : (advance16 k s).h = s.h := rfl
@[simp] theorem advance16_l16 (k : Nat) (s : State) : (advance16 k s).l16 = step16^[k] s.l16 := rfl
@[simp] theorem advance16_l31 (k : Nat) (s : State) : (advance16 k s).l31 = s.l31 := rfl
@[simp] theorem advance16_out (k : Nat) (s : State) : (advance16 k s).out = s.out := rfl
@[simp] theorem advance16_st (k : Nat) (s : State) : (advance16 k s).st = s.st := rfl
@[simp] theorem advance16_reason (k : Nat) (s : State) : (advance16 k s).reason = s.reason := rfl
@[simp] theorem advance16_flags (k : Nat) (s : State) : (advance16 k s).flags = s.flags := rfl
@[simp] theorem advance16_devPrev (k : Nat) (s : State) : (advance16 k s).devPrev = s.devPrev := rfl
@[simp] theorem advance16_lastS1 (k : Nat) (s : State) : (advance16 k s).lastS1 = s.lastS1 := rfl
@[simp] theorem advance16_lastS2 (k : Nat) (s : State) : (advance16 k s).lastS2 = s.lastS2 := rfl
@[simp] theorem advance16_wcnt (k : Nat) (s : State) : (advance16 k s).wcnt = s.wcnt := rfl
@[simp] theorem advance16_x (k : Nat) (s : State) : (advance16 k s).x = s.x := rfl
@[simp] theorem advance16_events (k : Nat) (s : State) : (advance16 k s).events = s.events := rfl
@[simp] theorem advance16_replies (k : Nat) (s : State) : (advance16 k s).replies = s.replies := rfl
@[simp] theorem advance16_draws (k : Nat) (s : State) : (advance16 k s).draws = s.draws := rfl
@[simp] theorem advance16_devLog (k : Nat) (s : State) : (advance16 k s).devLog = s.devLog := rfl
@[simp] theorem advance16_hostRets (k : Nat) (s : State) : (advance16 k s).hostRets = s.hostRets := rfl

@[simp] theorem advance31_h (k : Nat) (s : State) : (advance31 k s).h = s.h := rfl
@[simp] theorem advance31_l16 (k : Nat) (s : State) : (advance31 k s).l16 = s.l16 := rfl
@[simp] theorem advance31_l31 (k : Nat) (s : State) : (advance31 k s).l31 = step31^[k] s.l31 := rfl
@[simp] theorem advance31_out (k : Nat) (s : State) : (advance31 k s).out = s.out := rfl
@[simp] theorem advance31_st (k : Nat) (s : State) : (advance31 k s).st = s.st := rfl
@[simp] theorem advance31_reason (k : Nat) (s : State) : (advance31 k s).reason = s.reason := rfl
@[simp] theorem advance31_flags (k : Nat) (s : State) : (advance31 k s).flags = s.flags := rfl
@[simp] theorem advance31_devPrev (k : Nat) (s : State) : (advance31 k s).devPrev = s.devPrev := rfl
@[simp] theorem advance31_lastS1 (k : Nat) (s : State) : (advance31 k s).lastS1 = s.lastS1 := rfl
@[simp] theorem advance31_lastS2 (k : Nat) (s : State) : (advance31 k s).lastS2 = s.lastS2 := rfl
@[simp] theorem advance31_wcnt (k : Nat) (s : State) : (advance31 k s).wcnt = s.wcnt := rfl
@[simp] theorem advance31_x (k : Nat) (s : State) : (advance31 k s).x = s.x := rfl
@[simp] theorem advance31_events (k : Nat) (s : State) : (advance31 k s).events = s.events := rfl
@[simp] theorem advance31_replies (k : Nat) (s : State) : (advance31 k s).replies = s.replies := rfl
@[simp] theorem advance31_draws (k : Nat) (s : State) : (advance31 k s).draws = s.draws := rfl
@[simp] theorem advance31_devLog (k : Nat) (s : State) : (advance31 k s).devLog = s.devLog := rfl
@[simp] theorem advance31_hostRets (k : Nat) (s : State) : (advance31 k s).hostRets = s.hostRets := rfl

@[simp] theorem output16_h (s : State) : (output16 s).h = s.h := rfl
@[simp] theorem output16_l16 (s : State) : (output16 s).l16 = s.l16 := rfl
@[simp] theorem output16_l31 (s : State) : (output16 s).l31 = s.l31 := rfl
@[simp] theorem output16_out (s : State) : (output16 s).out = s.l16.extractLsb' 0 8 := rfl
@[simp] theorem output16_st (s : State) : (output16 s).st = s.st := rfl
@[simp] theorem output16_reason (s : State) : (output16 s).reason = s.reason := rfl
@[simp] theorem output16_flags (s : State) : (output16 s).flags = s.flags := rfl
@[simp] theorem output16_devPrev (s : State) : (output16 s).devPrev = s.devPrev := rfl
@[simp] theorem output16_lastS1 (s : State) : (output16 s).lastS1 = s.lastS1 := rfl
@[simp] theorem output16_lastS2 (s : State) : (output16 s).lastS2 = s.lastS2 := rfl
@[simp] theorem output16_wcnt (s : State) : (output16 s).wcnt = s.wcnt := rfl
@[simp] theorem output16_x (s : State) : (output16 s).x = s.x := rfl
@[simp] theorem output16_events (s : State) : (output16 s).events = s.events := rfl
@[simp] theorem output16_replies (s : State) : (output16 s).replies = s.replies := rfl
@[simp] theorem output16_draws (s : State) : (output16 s).draws = s.draws := rfl
@[simp] theorem output16_devLog (s : State) : (output16 s).devLog = s.devLog := rfl
@[simp] theorem output16_hostRets (s : State) : (output16 s).hostRets = s.hostRets := rfl

@[simp] theorem output31_h (s : State) : (output31 s).h = s.h := rfl
@[simp] theorem output31_l16 (s : State) : (output31 s).l16 = s.l16 := rfl
@[simp] theorem output31_l31 (s : State) : (output31 s).l31 = s.l31 := rfl
@[simp] theorem output31_out (s : State) : (output31 s).out = s.l31.extractLsb' 0 8 := rfl
@[simp] theorem output31_st (s : State) : (output31 s).st = s.st := rfl
@[simp] theorem output31_reason (s : State) : (output31 s).reason = s.reason := rfl
@[simp] theorem output31_flags (s : State) : (output31 s).flags = s.flags := rfl
@[simp] theorem output31_devPrev (s : State) : (output31 s).devPrev = s.devPrev := rfl
@[simp] theorem output31_lastS1 (s : State) : (output31 s).lastS1 = s.lastS1 := rfl
@[simp] theorem output31_lastS2 (s : State) : (output31 s).lastS2 = s.lastS2 := rfl
@[simp] theorem output31_wcnt (s : State) : (output31 s).wcnt = s.wcnt := rfl
@[simp] theorem output31_x (s : State) : (output31 s).x = s.x := rfl
@[simp] theorem output31_events (s : State) : (output31 s).events = s.events := rfl
@[simp] theorem output31_replies (s : State) : (output31 s).replies = s.replies := rfl
@[simp] theorem output31_draws (s : State) : (output31 s).draws = s.draws := rfl
@[simp] theorem output31_devLog (s : State) : (output31 s).devLog = s.devLog := rfl
@[simp] theorem output31_hostRets (s : State) : (output31 s).hostRets = s.hostRets := rfl

@[simp] theorem loadSeed16_h (s : State) : (loadSeed16 s).h = s.h := rfl
@[simp] theorem loadSeed16_l16 (s : State) : (loadSeed16 s).l16 = s.h.seed16 := rfl
@[simp] theorem loadSeed16_l31 (s : State) : (loadSeed16 s).l31 = s.l31 := rfl
@[simp] theorem loadSeed16_out (s : State) : (loadSeed16 s).out = s.out := rfl
@[simp] theorem loadSeed16_st (s : State) : (loadSeed16 s).st = s.st := rfl
@[simp] theorem loadSeed16_reason (s : State) : (loadSeed16 s).reason = s.reason := rfl
@[simp] theorem loadSeed16_flags (s : State) : (loadSeed16 s).flags = s.flags := rfl
@[simp] theorem loadSeed16_devPrev (s : State) : (loadSeed16 s).devPrev = s.devPrev := rfl
@[simp] theorem loadSeed16_lastS1 (s : State) : (loadSeed16 s).lastS1 = s.lastS1 := rfl
@[simp] theorem loadSeed16_lastS2 (s : State) : (loadSeed16 s).lastS2 = s.lastS2 := rfl
@[simp] theorem loadSeed16_wcnt (s : State) : (loadSeed16 s).wcnt = s.wcnt := rfl
@[simp] theorem loadSeed16_x (s : State) : (loadSeed16 s).x = s.x := rfl
@[simp] theorem loadSeed16_events (s : State) : (loadSeed16 s).events = s.events := rfl
@[simp] theorem loadSeed16_replies (s : State) : (loadSeed16 s).replies = s.replies := rfl
@[simp] theorem loadSeed16_draws (s : State) : (loadSeed16 s).draws = s.draws := rfl
@[simp] theorem loadSeed16_devLog (s : State) : (loadSeed16 s).devLog = s.devLog := rfl
@[simp] theorem loadSeed16_hostRets (s : State) : (loadSeed16 s).hostRets = s.hostRets := rfl

@[simp] theorem loadSeed31_h (s : State) : (loadSeed31 s).h = s.h := rfl
@[simp] theorem loadSeed31_l16 (s : State) : (loadSeed31 s).l16 = s.l16 := rfl
@[simp] theorem loadSeed31_l31 (s : State) : (loadSeed31 s).l31 = s.h.seed31 := rfl
@[simp] theorem loadSeed31_out (s : State) : (loadSeed31 s).out = s.out := rfl
@[simp] theorem loadSeed31_st (s : State) : (loadSeed31 s).st = s.st := rfl
@[simp] theorem loadSeed31_reason (s : State) : (loadSeed31 s).reason = s.reason := rfl
@[simp] theorem loadSeed31_flags (s : State) : (loadSeed31 s).flags = s.flags := rfl
@[simp] theorem loadSeed31_devPrev (s : State) : (loadSeed31 s).devPrev = s.devPrev := rfl
@[simp] theorem loadSeed31_lastS1 (s : State) : (loadSeed31 s).lastS1 = s.lastS1 := rfl
@[simp] theorem loadSeed31_lastS2 (s : State) : (loadSeed31 s).lastS2 = s.lastS2 := rfl
@[simp] theorem loadSeed31_wcnt (s : State) : (loadSeed31 s).wcnt = s.wcnt := rfl
@[simp] theorem loadSeed31_x (s : State) : (loadSeed31 s).x = s.x := rfl
@[simp] theorem loadSeed31_events (s : State) : (loadSeed31 s).events = s.events := rfl
@[simp] theorem loadSeed31_replies (s : State) : (loadSeed31 s).replies = s.replies := rfl
@[simp] theorem loadSeed31_draws (s : State) : (loadSeed31 s).draws = s.draws := rfl
@[simp] theorem loadSeed31_devLog (s : State) : (loadSeed31 s).devLog = s.devLog := rfl
@[simp] theorem loadSeed31_hostRets (s : State) : (loadSeed31 s).hostRets = s.hostRets := rfl

end Sys2Proof.Machine
end

