-- ==== Sys2Proof/Laws/Ops.lean ====
section
/-! SUPPORT. What each shared operation can do, said once. -/

namespace Sys2Proof.Machine

/-! The host registers. -/

@[simp] theorem HostRegs.get_set (h : HostRegs) (v : Byte) (a b : HReg) :
    (h.set v a).get b = if b = a then v else h.get b := by
  cases a <;> cases b <;> rfl

@[simp] theorem HostRegs.set_get (h : HostRegs) (a : HReg) : h.set (h.get a) a = h := by
  cases a <;> rfl

@[simp] theorem HostRegs.set_set (h : HostRegs) (v w : Byte) (a : HReg) : (h.set v a).set w a = h.set w a := by
  cases a <;> rfl

/-- Two register files that agree at every name are equal. -/
theorem HostRegs.eq_of_get {h k : HostRegs} (e : ∀ reg, h.get reg = k.get reg) : h = k := by
  obtain ⟨⟩ := h
  obtain ⟨⟩ := k
  simp only [HostRegs.mk.injEq]
  exact ⟨e .cmd, e .cylLo, e .cylHi, e .head, e .sector, e .t1Lo, e .t1Hi, e .t2Lo, e .t2Hi, e .t3Lo, e .t3Hi,
    e .seed16Lo, e .seed16Hi, e .seed31B0, e .seed31B1, e .seed31B2, e .seed31B3, e .devReg, e .devData⟩

/-! The device port. -/

theorem controllerReply_congr {s t : State} (hr : t.replies = s.replies) (hd : t.draws = s.draws) (k : Nat) (r d : Byte) :
    controllerReply t k r d = controllerReply s k r d := by
  simp only [controllerReply, hr, hd]

/-- After a device transaction, the next one is the second one from before it. -/
@[simp] theorem controllerReply_recordXact (s : State) (k : Nat) (r d p r' d' : Byte) :
    controllerReply (recordXact r' d' p s) k r d = controllerReply s (k + 1) r d := by
  simp only [controllerReply, recordXact_replies, recordXact_draws, List.getElem?_tail]
  rw [Nat.add_right_comm, Nat.add_assoc]

/-- A controller that answers gives some byte. -/
theorem controllerReply_of_answers {s : State} (h : Reply.silent ∉ s.replies) (k : Nat) (r d : Byte) :
    ∃ p, controllerReply s k r d = some p := by
  unfold controllerReply
  split
  · exact ⟨_, rfl⟩
  · rename_i e
    exact absurd (List.mem_of_getElem? e) h
  · exact ⟨_, rfl⟩

/-- Only a listed silence leaves a device transaction unanswered. -/
theorem controllerReply_eq_none {s : State} {k : Nat} {r d : Byte} :
    controllerReply s k r d = none ↔ s.replies[k]? = some .silent := by
  unfold controllerReply
  split <;> simp_all

theorem devXact_of_reply {r d p : Byte} {s : State} (h : controllerReply s 0 r d = some p) (k : Byte → State → Result) :
    devXact r d s k = k p (recordXact r d p s) := by
  simp only [devXact, h]

theorem devXact_of_silent {r d : Byte} {s : State} (h : controllerReply s 0 r d = none) (k : Byte → State → Result) :
    devXact r d s k = .fault .controllerSilent := by
  simp only [devXact, h]

/-- All a device transaction can do when the step completes. -/
theorem devXact_eq_next {r d : Byte} {s t : State} {k : Byte → State → Result} :
    devXact r d s k = .next t ↔ ∃ p, controllerReply s 0 r d = some p ∧ k p (recordXact r d p s) = .next t := by
  unfold devXact
  split <;> simp_all

theorem devWrite_eq_next {r d : Byte} {s t : State} {k : State → Result} :
    devWrite r d s k = .next t ↔ ∃ p, controllerReply s 0 r d = some p ∧ k (recordXact r d p s) = .next t :=
  devXact_eq_next

theorem devRead_eq_next {r : Byte} {s t : State} {k : Byte → State → Result} :
    devRead r s k = .next t ↔ ∃ p, controllerReply s 0 r 0x00 = some p ∧ k p (recordXact r 0x00 p s) = .next t :=
  devXact_eq_next

/-! The error flags, the abort and the busy check. -/

theorem abort_eq_next {reason : Reason} {s t : State} :
    abort reason s = .next t ↔
      ∃ p, controllerReply s 0 Config.devCommand Config.dcClear = some p ∧
        t = { recordXact Config.devCommand Config.dcClear p s with reason := reason, st := .aborted } := by
  simp only [abort, devWrite_eq_next, Host.Outcome.next.injEq]
  simp only [eq_comm (b := t)]

theorem whenNotBusy_of_busy {s : State} (h : s.busy = true) (k : State → Result) :
    whenNotBusy s k = .next (setErr .busy s) := by
  simp only [whenNotBusy, h, if_true]

theorem whenNotBusy_of_not_busy {s : State} (h : s.busy = false) (k : State → Result) : whenNotBusy s k = k s := by
  simp [whenNotBusy, h]

theorem whenNotBusy_eq_next {s t : State} {k : State → Result} :
    whenNotBusy s k = .next t ↔ (s.busy = true ∧ t = setErr .busy s) ∨ (s.busy = false ∧ k s = .next t) := by
  unfold whenNotBusy
  cases s.busy <;> simp [eq_comm]

@[simp] theorem exchange_busy (reg : HReg) (v : Byte) (s : State) : (exchange reg v s).busy = s.busy := rfl

@[simp] theorem controllerReply_exchange (reg : HReg) (v : Byte) (s : State) (k : Nat) (r d : Byte) :
    controllerReply (exchange reg v s) k r d = controllerReply s k r d := rfl

@[simp] theorem controllerReply_latchStart (op : XOp) (s : State) (k : Nat) (r d : Byte) :
    controllerReply (latchStart op s) k r d = controllerReply s k r d := rfl

/-- A failed poll either counts on or times the stage out. -/
theorem failedPoll_eq_next {budget : Word} {reason : Reason} {s t : State} :
    failedPoll budget reason s = .next t ↔
      (s.wcnt + 1 ≠ budget ∧ t = { s with wcnt := s.wcnt + 1 }) ∨
      (s.wcnt + 1 = budget ∧ abort reason { s with wcnt := s.wcnt + 1 } = .next t) := by
  by_cases e : s.wcnt + 1 = budget
  · simp only [failedPoll, e, if_true, ne_eq, not_true_eq_false, false_and, true_and, false_or]
  · simp only [failedPoll, e, if_false, ne_eq, not_false_eq_true, true_and, false_and, or_false, Host.Outcome.next.injEq]
    exact eq_comm

end Sys2Proof.Machine
end

