-- ==== Sys2Proof/Laws/Step.lean ====
section
/-! SUPPORT. What a step and a TICK can do, said once. -/

namespace Sys2Proof.Machine

/-- A device transaction is appended to what the controller has seen. -/
@[simp] theorem sent_recordXact (r d p : Byte) (s : State) : (recordXact r d p s).sent = s.sent ++ [(r, d)] := by
  simp [State.sent, DevXact.sent]

theorem step_of_no_event {s : State} (h : s.events = []) : step s = .next s := by
  simp only [step, h]

theorem step_of_host {s : State} {r d : Byte} {es : List Event} (h : s.events = .host r d :: es) :
    step s = exec (decodeXact r d) { s with events := es } := by
  simp only [step, h]

theorem step_of_tick {s : State} {es : List Event} (h : s.events = .tick :: es) :
    step s = tick { s with events := es } := by
  simp only [step, h]

theorem step_of_powerOn {s : State} {es : List Event} (h : s.events = .powerOn :: es) :
    step s = .next (resetState { s with events := es }) := by
  simp only [step, h, powerOn]

@[simp] theorem core_run_zero (s : State) : Host.Core.run Sys2Proof.core 0 s = .next s := rfl

theorem core_run_succ (k : Nat) (s : State) :
    Host.Core.run Sys2Proof.core (k + 1) s =
      match step s with
      | .next t => Host.Core.run Sys2Proof.core k t
      | .fault f => .fault f
      | .refused q => .refused q := by
  cases h : step s <;> simp only [Host.Core.run, Sys2Proof.core, h]

/-- A run goes through its first step. -/
theorem core_run_of_step {k : Nat} {s t : State} (h : step s = .next t) :
    Host.Core.run Sys2Proof.core (k + 1) s = Host.Core.run Sys2Proof.core k t := by
  rw [core_run_succ, h]

/-- A run of `m + k` steps is a run of `m` steps and then a run of `k` steps. -/
theorem core_run_add {m k : Nat} {s t : State} (h : Host.Core.run Sys2Proof.core m s = .next t) :
    Host.Core.run Sys2Proof.core (m + k) s = Host.Core.run Sys2Proof.core k t := by
  induction m generalizing s with
  | zero =>
    rw [core_run_zero] at h
    cases h
    rw [Nat.zero_add]
  | succ m ih =>
    rw [core_run_succ] at h
    rw [Nat.add_right_comm, core_run_succ]
    split at h
    · exact ih h
    · cases h
    · cases h

/-- The state after the poll of a wait stage has read the status byte `v` (41_handshake.md R106, R107, R109). -/
def polled (v : Byte) (s : State) : State :=
  if s.st = .seekIssued then { recordXact Config.devStatus1 0x00 v s with lastS1 := v }
  else { recordXact Config.devStatus2 0x00 v s with lastS2 := v }

/-- The state after a poll that found what the stage awaits (41_handshake.md R106, R107, R109). -/
def pollSucceeded (s : State) : State :=
  match s.st with
  | .seekIssued => { s with st := .addrAccepted, wcnt := 0 }
  | .addrAccepted => { s with st := .driveReady }
  | _ => { s with st := .done }

/-- A TICK in a wait stage, for all three stages at once. -/
theorem tick_of_waits {s : State} (w : s.st.waits = true) :
    tick s = devRead s.st.pollReg s fun v _ =>
      if s.x.awaited s.st v then .next (pollSucceeded (polled v s))
      else failedPoll (s.x.budget s.st) s.st.timeoutReason (polled v s) := by
  have h : ∀ r, devRead r s = fun k => match controllerReply s 0 r 0x00 with
      | some v => k v (recordXact r 0x00 v s)
      | none => .fault .controllerSilent := fun _ => rfl
  revert w
  unfold tick
  cases e : s.st <;> simp only [St.waits, Bool.false_eq_true, false_implies, forall_true_left]
  · simp only [pollAddrAccepted, addrAcceptedBit, Config.s1AddrAccepted, St.pollReg, Latches.awaited, polled, e, if_true,
      pollSucceeded, Latches.budget, St.timeoutReason, recordXact_st, recordXact_x, recordXact_wcnt, h]
  · simp only [pollReady, rwsReadyBit, Config.s2RwsReady, St.pollReg, Latches.awaited, polled, e, if_false, reduceCtorEq,
      pollSucceeded, Latches.budget, St.timeoutReason, recordXact_st, recordXact_x, recordXact_wcnt, h]
  · simp only [pollCompletion, completionBit, Config.s2Rip, Config.s2Wip, St.pollReg, Latches.awaited, polled, e, if_false,
      reduceCtorEq, pollSucceeded, Latches.budget, St.timeoutReason, recordXact_st, recordXact_x, recordXact_wcnt, h]
    split
    · rename_i v _
      by_cases o : s.x.xop = .read
      · simp only [o, if_true]
        cases v.getLsbD 6 <;> rfl
      · simp only [o, if_false]
        cases v.getLsbD 7 <;> rfl
    · rfl

/-- All a TICK can do when it completes. -/
inductive TickCase (s t : State) : Prop where
  | rests (h : s.st = .idle ∨ s.st = .done ∨ s.st = .aborted) (e : t = s)
  | succeeds (v : Byte) (w : s.st.waits = true) (r : controllerReply s 0 s.st.pollReg 0x00 = some v)
      (a : s.x.awaited s.st v = true) (e : t = pollSucceeded (polled v s))
  | counts (v : Byte) (w : s.st.waits = true) (r : controllerReply s 0 s.st.pollReg 0x00 = some v)
      (a : s.x.awaited s.st v = false) (b : s.wcnt + 1 ≠ s.x.budget s.st)
      (e : t = { polled v s with wcnt := s.wcnt + 1 })
  | timesOut (v p : Byte) (w : s.st.waits = true) (r : controllerReply s 0 s.st.pollReg 0x00 = some v)
      (a : s.x.awaited s.st v = false) (b : s.wcnt + 1 = s.x.budget s.st)
      (c : controllerReply s 1 Config.devCommand Config.dcClear = some p)
      (e : t = { recordXact Config.devCommand Config.dcClear p { polled v s with wcnt := s.wcnt + 1 } with
        reason := s.st.timeoutReason, st := .aborted })
  | seekEnds (h : s.st = .driveReady) (o : s.x.xop = .seek) (e : t = { s with st := .done })
  | issues (p q u : Byte) (h : s.st = .driveReady) (o : s.x.xop ≠ .seek)
      (a : controllerReply s 0 Config.devHead s.x.xhead = some p)
      (b : controllerReply s 1 Config.devSector s.x.xsec = some q)
      (c : controllerReply s 2 Config.devCommand (transferByte s.x.xop) = some u)
      (e : t = { recordXact Config.devCommand (transferByte s.x.xop) u
          (recordXact Config.devSector s.x.xsec q (recordXact Config.devHead s.x.xhead p s)) with
        st := .commandIssued, wcnt := 0 })

@[simp] theorem polled_wcnt (v : Byte) (s : State) : (polled v s).wcnt = s.wcnt := by unfold polled; split <;> rfl
@[simp] theorem polled_st (v : Byte) (s : State) : (polled v s).st = s.st := by unfold polled; split <;> rfl
@[simp] theorem polled_x (v : Byte) (s : State) : (polled v s).x = s.x := by unfold polled; split <;> rfl
@[simp] theorem polled_reason (v : Byte) (s : State) : (polled v s).reason = s.reason := by unfold polled; split <;> rfl
@[simp] theorem polled_h (v : Byte) (s : State) : (polled v s).h = s.h := by unfold polled; split <;> rfl
@[simp] theorem polled_events (v : Byte) (s : State) : (polled v s).events = s.events := by unfold polled; split <;> rfl

/-- A poll is appended to what the controller has seen. -/
@[simp] theorem sent_polled {s : State} (w : s.st.waits = true) (v : Byte) :
    (polled v s).sent = s.sent ++ [(s.st.pollReg, 0x00)] := by
  revert w
  unfold polled
  cases e : s.st <;> simp [St.waits, St.pollReg, State.sent, DevXact.sent]

@[simp] theorem controllerReply_polled (v : Byte) (s : State) (k : Nat) (r d : Byte) :
    controllerReply (polled v s) k r d = controllerReply s (k + 1) r d := by
  unfold polled
  split
  · exact controllerReply_recordXact s k r d v Config.devStatus1 0x00
  · exact controllerReply_recordXact s k r d v Config.devStatus2 0x00

theorem tickCase_of_waits {s t : State} (w : s.st.waits = true) (h : tick s = .next t) : TickCase s t := by
  rw [tick_of_waits w, devRead_eq_next] at h
  obtain ⟨v, r, h⟩ := h
  split at h
  · cases h
    exact .succeeds v w r ‹_› rfl
  · rename_i a
    rw [failedPoll_eq_next] at h
    obtain ⟨b, e⟩ | ⟨b, h⟩ := h
    · exact .counts v w r (by simpa using a) (by simpa using b) (by simpa using e)
    · obtain ⟨p, c, e⟩ := abort_eq_next.mp h
      refine .timesOut v p w r (by simpa using a) (by simpa using b) ?_ (by simpa using e)
      rw [← controllerReply_polled v s 0]
      exact c

/-- The one inversion of a TICK: a TICK that completes is one of the six cases. -/
theorem tickCase_of_next {s t : State} (h : tick s = .next t) : TickCase s t := by
  cases e : s.st with
  | seekIssued => exact tickCase_of_waits (by rw [e]; rfl) h
  | addrAccepted => exact tickCase_of_waits (by rw [e]; rfl) h
  | commandIssued => exact tickCase_of_waits (by rw [e]; rfl) h
  | idle =>
    simp only [tick, e] at h
    cases h
    exact .rests (.inl e) rfl
  | done =>
    simp only [tick, e] at h
    cases h
    exact .rests (.inr (.inl e)) rfl
  | aborted =>
    simp only [tick, e] at h
    cases h
    exact .rests (.inr (.inr e)) rfl
  | driveReady =>
    simp only [tick, e, issueCommand] at h
    split at h
    · cases h
      exact .seekEnds e ‹_› rfl
    · rename_i o
      obtain ⟨p, a, h⟩ := devWrite_eq_next.mp h
      obtain ⟨q, b, h⟩ := devWrite_eq_next.mp h
      obtain ⟨u, c, h⟩ := devWrite_eq_next.mp h
      simp only [controllerReply_recordXact, recordXact_x] at a b c h
      cases h
      exact .issues p q u e o a b c rfl

end Sys2Proof.Machine
end

