-- ==== Sys2Proof/Laws/Exec.lean ====
section
/-! SUPPORT. What a host transaction can do when it completes, said once. -/

namespace Sys2Proof.Machine

/-- The start commands, each with its code. -/
def startOp : Byte → Option XOp := fun d =>
  if d = 0x40 then some .seek else if d = 0x41 then some .read else if d = 0x42 then some .write else none

/-- All a CMD write of the code `d` can do when it completes. -/
inductive CmdNext (d : Byte) (s t : State) : Prop where
  | nop (c : d = 0x00) (e : t = storeCmd d s)
  | adv16 (n : BitVec 5) (c : d = advanceCode 0x1 n) (w : advanceCount n = true) (e : t = advance16 n.toNat (storeCmd d s))
  | adv31 (n : BitVec 5) (c : d = advanceCode 0x2 n) (w : advanceCount n = true) (e : t = advance31 n.toNat (storeCmd d s))
  | byte16 (k : Nat) (c : (d = 0x30 ∧ k = 8) ∨ (d = 0x31 ∧ k = 16)) (e : t = output16 (advance16 k (storeCmd d s)))
  | byte31 (k : Nat) (c : (d = 0x32 ∧ k = 8) ∨ (d = 0x33 ∧ k = 16)) (e : t = output31 (advance31 k (storeCmd d s)))
  | seed16 (c : d = 0x38) (e : t = loadSeed16 (storeCmd d s))
  | seed31 (c : d = 0x39) (e : t = loadSeed31 (storeCmd d s))
  | refused (c : d ∈ ([0x40, 0x41, 0x42, 0x48, 0x50, 0x60] : List Byte)) (b : s.busy = true)
      (e : t = setErr .busy (storeCmd d s))
  | start (op : XOp) (p q : Byte) (c : startOp d = some op) (b : s.busy = false)
      (hp : controllerReply s 0 Config.devCyl s.h.cylLo = some p)
      (hq : controllerReply s 1 Config.devCommand (seekByte s.h.restore) = some q)
      (e : t = { recordXact Config.devCommand (seekByte s.h.restore) q
        (recordXact Config.devCyl s.h.cylLo p (latchStart op (storeCmd d s))) with st := .seekIssued })
  | ack (c : d = 0x48) (b : s.busy = false) (e : t = acknowledge (storeCmd d s))
  | readychk (v w : Byte) (c : d = 0x50) (b : s.busy = false)
      (hv : controllerReply s 0 Config.devStatus1 0x00 = some v) (hw : controllerReply s 1 Config.devStatus2 0x00 = some w)
      (e : t = { recordXact Config.devStatus2 0x00 w (recordXact Config.devStatus1 0x00 v (storeCmd d s)) with
        lastS1 := v, lastS2 := w, flags := s.flags.checked (driveReadyBits v w) })
  | devx (p : Byte) (c : d = 0x60) (b : s.busy = false) (hp : controllerReply s 0 s.h.devReg s.h.devData = some p)
      (e : t = { recordXact s.h.devReg s.h.devData p (storeCmd d s) with devPrev := p })
  | srst (c : d = 0xFF) (e : t = resetState (storeCmd d s))
  | reserved (c : reservedCode d = true) (e : t = setErr .illegal (storeCmd d s))

theorem startXfer_eq_next {op : XOp} {s t : State} (h : startXfer op s = .next t) :
    ∃ p q, controllerReply s 0 Config.devCyl s.h.cylLo = some p ∧
      controllerReply s 1 Config.devCommand (seekByte s.h.restore) = some q ∧
      t = { recordXact Config.devCommand (seekByte s.h.restore) q (recordXact Config.devCyl s.h.cylLo p (latchStart op s))
        with st := .seekIssued } := by
  obtain ⟨p, hp, h⟩ := devWrite_eq_next.mp h
  obtain ⟨q, hq, h⟩ := devWrite_eq_next.mp h
  cases h
  rw [controllerReply_recordXact] at hq
  exact ⟨p, q, hp, hq, rfl⟩

theorem cmdNext_of_exec {d : Byte} {s t : State} (h : exec (decodeCmd d) s = .next t) : CmdNext d s t := by
  have start : ∀ op c, startOp c = some op → c ∈ ([0x40, 0x41, 0x42, 0x48, 0x50, 0x60] : List Byte) →
      (whenNotBusy (storeCmd c s) fun s => startXfer op s) = .next t → CmdNext c s t := by
    intro op c hc m h
    obtain ⟨b, e⟩ | ⟨b, h⟩ := whenNotBusy_eq_next.mp h
    · exact .refused m b e
    · obtain ⟨p, q, hp, hq, e⟩ := startXfer_eq_next h
      exact .start op p q hc b hp hq e
  cases cmdCase d with
  | adv16 n c w i =>
    rw [i] at h
    cases h
    exact .adv16 n c w (by rw [← c])
  | adv31 n c w i =>
    rw [i] at h
    cases h
    exact .adv31 n c w (by rw [← c])
  | reserved c i =>
    rw [i] at h
    cases h
    exact .reserved c rfl
  | nop c i =>
    subst c
    rw [i] at h
    cases h
    exact .nop rfl rfl
  | byte16_8 c i =>
    subst c
    rw [i] at h
    cases h
    exact .byte16 8 (by decide) rfl
  | byte16_16 c i =>
    subst c
    rw [i] at h
    cases h
    exact .byte16 16 (by decide) rfl
  | byte31_8 c i =>
    subst c
    rw [i] at h
    cases h
    exact .byte31 8 (by decide) rfl
  | byte31_16 c i =>
    subst c
    rw [i] at h
    cases h
    exact .byte31 16 (by decide) rfl
  | seed16 c i =>
    subst c
    rw [i] at h
    cases h
    exact .seed16 rfl rfl
  | seed31 c i =>
    subst c
    rw [i] at h
    cases h
    exact .seed31 rfl rfl
  | xseek c i =>
    subst c
    rw [i] at h
    exact start .seek 0x40 rfl (by simp) h
  | xread c i =>
    subst c
    rw [i] at h
    exact start .read 0x41 rfl (by simp) h
  | xwrite c i =>
    subst c
    rw [i] at h
    exact start .write 0x42 rfl (by simp) h
  | ack c i =>
    subst c
    rw [i] at h
    rw [exec, execAck] at h
    obtain ⟨b, e⟩ | ⟨b, h⟩ := whenNotBusy_eq_next.mp h
    · exact .refused (by simp) b e
    · cases h
      exact .ack rfl b rfl
  | readychk c i =>
    subst c
    rw [i] at h
    rw [exec, execReadychk] at h
    obtain ⟨b, e⟩ | ⟨b, h⟩ := whenNotBusy_eq_next.mp h
    · exact .refused (by simp) b e
    · obtain ⟨v, hv, h⟩ := devRead_eq_next.mp h
      obtain ⟨w, hw, h⟩ := devRead_eq_next.mp h
      cases h
      exact .readychk v w rfl b hv ((controllerReply_recordXact s 0 _ _ v Config.devStatus1 0x00).symm.trans hw) rfl
  | devx c i =>
    subst c
    rw [i] at h
    rw [exec, execDevx] at h
    obtain ⟨b, e⟩ | ⟨b, h⟩ := whenNotBusy_eq_next.mp h
    · exact .refused (by simp) b e
    · obtain ⟨p, hp, h⟩ := devXact_eq_next.mp h
      cases h
      exact .devx p rfl b hp rfl
  | srst c i =>
    subst c
    rw [i] at h
    cases h
    exact .srst rfl rfl

theorem exec_decodeExchange {reg : HReg} (n : reg ≠ .cmd) (d : Byte) (s : State) :
    exec (decodeExchange d reg) s = .next (exchange reg d s) := by
  cases reg <;> first | exact absurd rfl n | rfl

/-- All a host transaction can do when it completes. -/
inductive XactNext (r d : Byte) (s t : State) : Prop where
  | cmd (c : r = 0x00) (n : CmdNext d s t)
  | write (reg : HReg) (n : reg ≠ .cmd) (c : r = reg.number) (e : t = exchange reg d s)
  | reserved (c : reservedWritable r = true) (e : t = hostReturn 0x00 s)
  | read (c : readOnlyNumber r = true) (e : t = hostReturn (s.readRO r) s)

theorem xactNext_of_exec {r d : Byte} {s t : State} (h : exec (decodeXact r d) s = .next t) : XactNext r d s t := by
  cases xactCase r d with
  | cmd e c i => exact .cmd e (cmdNext_of_exec (by rw [← i]; exact h))
  | write reg n e i =>
    rw [i, exec_decodeExchange n] at h
    cases h
    exact .write reg n e rfl
  | reserved c i =>
    rw [i] at h
    cases h
    exact .reserved c rfl
  | read c i =>
    rw [i] at h
    cases h
    exact .read c rfl

/-- All a step can do when it completes: the one inversion of `step`. -/
inductive StepCase (s t : State) : Prop where
  | waits (h : s.events = []) (e : t = s)
  | host (r d : Byte) (es : List Event) (h : s.events = .host r d :: es) (n : XactNext r d { s with events := es } t)
  | tick (es : List Event) (h : s.events = .tick :: es) (n : TickCase { s with events := es } t)
  | powerOn (es : List Event) (h : s.events = .powerOn :: es) (e : t = resetState { s with events := es })

theorem stepCase_of_next {s t : State} (h : step s = .next t) : StepCase s t := by
  cases e : s.events with
  | nil =>
    rw [step_of_no_event e] at h
    cases h
    exact .waits e rfl
  | cons a es =>
    cases a with
    | host r d =>
      rw [step_of_host e] at h
      exact .host r d es e (xactNext_of_exec h)
    | tick =>
      rw [step_of_tick e] at h
      exact .tick es e (tickCase_of_next h)
    | powerOn =>
      rw [step_of_powerOn e] at h
      cases h
      exact .powerOn es e rfl

end Sys2Proof.Machine
end

