-- ==== Sys2Proof/Laws/PerInstr.lean ====
section
/-! SUPPORT. A statement about every instruction as syntax: the word of a well-formed instruction has the format its row
of the opcode table has (30_encoding.md R70). -/

namespace Sys2Proof.Laws.WordFormat

open Sys2Proof

/-- The four formats of a host transaction word (30_encoding.md R70). -/
inductive Format where
  | cmd
  | wreg
  | wrsv
  | rreg
deriving DecidableEq, Repr

/-- The format of a word, told by its register number (30_encoding.md R70). -/
def formatOf (r : Byte) : Format :=
  if r = 0x00 then .cmd else if r ≤ 0x12 then .wreg else if r ≤ 0x7F then .wrsv else .rreg

/-- The format of an instruction's row of spec/opcode_table.json. -/
def rowFormat : Instr → Format
  | .nop => .cmd
  | .adv16 _ => .cmd
  | .adv31 _ => .cmd
  | .byte16_8 => .cmd
  | .byte16_16 => .cmd
  | .byte31_8 => .cmd
  | .byte31_16 => .cmd
  | .seed16 => .cmd
  | .seed31 => .cmd
  | .xseek => .cmd
  | .xread => .cmd
  | .xwrite => .cmd
  | .ack => .cmd
  | .readychk => .cmd
  | .devx => .cmd
  | .srst => .cmd
  | .reservedCmd _ => .cmd
  | .wrCylLo _ => .wreg
  | .wrCylHi _ => .wreg
  | .wrHead _ => .wreg
  | .wrSector _ => .wreg
  | .wrT1Lo _ => .wreg
  | .wrT1Hi _ => .wreg
  | .wrT2Lo _ => .wreg
  | .wrT2Hi _ => .wreg
  | .wrT3Lo _ => .wreg
  | .wrT3Hi _ => .wreg
  | .wrSeed16Lo _ => .wreg
  | .wrSeed16Hi _ => .wreg
  | .wrSeed31B0 _ => .wreg
  | .wrSeed31B1 _ => .wreg
  | .wrSeed31B2 _ => .wreg
  | .wrSeed31B3 _ => .wreg
  | .wrDevReg _ => .wreg
  | .wrDevData _ => .wreg
  | .wrReserved _ _ => .wrsv
  | .rd _ _ => .rreg

/-- The word of a well-formed instruction has its row's format. -/
def Statement (i : Instr) : Prop := i.wellFormed = true → formatOf (regByte (encode i)) = rowFormat i

theorem formatOf_cmdWord (d : Byte) : formatOf (regByte (cmdWord d)) = .cmd := by
  rw [cmdWord, regByte_hostWord]
  decide

theorem formatOf_writeWord {reg : HReg} (n : reg ≠ .cmd) (v : Byte) : formatOf (regByte (writeWord reg v)) = .wreg := by
  rw [writeWord, regByte_hostWord]
  cases reg <;> first | exact absurd rfl n | decide

theorem formatOf_reserved {r : Byte} (h : reservedWritable r = true) : formatOf r = .wrsv := by
  revert r
  decide

theorem formatOf_read {r : Byte} (h : readOnlyNumber r = true) : formatOf r = .rreg := by
  revert r
  decide

theorem nop : Statement .nop := fun _ => formatOf_cmdWord _
theorem adv16 (n : BitVec 5) : Statement (.adv16 n) := fun _ => formatOf_cmdWord _
theorem adv31 (n : BitVec 5) : Statement (.adv31 n) := fun _ => formatOf_cmdWord _
theorem byte16_8 : Statement .byte16_8 := fun _ => formatOf_cmdWord _
theorem byte16_16 : Statement .byte16_16 := fun _ => formatOf_cmdWord _
theorem byte31_8 : Statement .byte31_8 := fun _ => formatOf_cmdWord _
theorem byte31_16 : Statement .byte31_16 := fun _ => formatOf_cmdWord _
theorem seed16 : Statement .seed16 := fun _ => formatOf_cmdWord _
theorem seed31 : Statement .seed31 := fun _ => formatOf_cmdWord _
theorem xseek : Statement .xseek := fun _ => formatOf_cmdWord _
theorem xread : Statement .xread := fun _ => formatOf_cmdWord _
theorem xwrite : Statement .xwrite := fun _ => formatOf_cmdWord _
theorem ack : Statement .ack := fun _ => formatOf_cmdWord _
theorem readychk : Statement .readychk := fun _ => formatOf_cmdWord _
theorem devx : Statement .devx := fun _ => formatOf_cmdWord _
theorem srst : Statement .srst := fun _ => formatOf_cmdWord _
theorem reservedCmd (d : Byte) : Statement (.reservedCmd d) := fun _ => formatOf_cmdWord _
theorem wrCylLo (v : Byte) : Statement (.wrCylLo v) := fun _ => formatOf_writeWord (by decide) _
theorem wrCylHi (v : Byte) : Statement (.wrCylHi v) := fun _ => formatOf_writeWord (by decide) _
theorem wrHead (v : Byte) : Statement (.wrHead v) := fun _ => formatOf_writeWord (by decide) _
theorem wrSector (v : Byte) : Statement (.wrSector v) := fun _ => formatOf_writeWord (by decide) _
theorem wrT1Lo (v : Byte) : Statement (.wrT1Lo v) := fun _ => formatOf_writeWord (by decide) _
theorem wrT1Hi (v : Byte) : Statement (.wrT1Hi v) := fun _ => formatOf_writeWord (by decide) _
theorem wrT2Lo (v : Byte) : Statement (.wrT2Lo v) := fun _ => formatOf_writeWord (by decide) _
theorem wrT2Hi (v : Byte) : Statement (.wrT2Hi v) := fun _ => formatOf_writeWord (by decide) _
theorem wrT3Lo (v : Byte) : Statement (.wrT3Lo v) := fun _ => formatOf_writeWord (by decide) _
theorem wrT3Hi (v : Byte) : Statement (.wrT3Hi v) := fun _ => formatOf_writeWord (by decide) _
theorem wrSeed16Lo (v : Byte) : Statement (.wrSeed16Lo v) := fun _ => formatOf_writeWord (by decide) _
theorem wrSeed16Hi (v : Byte) : Statement (.wrSeed16Hi v) := fun _ => formatOf_writeWord (by decide) _
theorem wrSeed31B0 (v : Byte) : Statement (.wrSeed31B0 v) := fun _ => formatOf_writeWord (by decide) _
theorem wrSeed31B1 (v : Byte) : Statement (.wrSeed31B1 v) := fun _ => formatOf_writeWord (by decide) _
theorem wrSeed31B2 (v : Byte) : Statement (.wrSeed31B2 v) := fun _ => formatOf_writeWord (by decide) _
theorem wrSeed31B3 (v : Byte) : Statement (.wrSeed31B3 v) := fun _ => formatOf_writeWord (by decide) _
theorem wrDevReg (v : Byte) : Statement (.wrDevReg v) := fun _ => formatOf_writeWord (by decide) _
theorem wrDevData (v : Byte) : Statement (.wrDevData v) := fun _ => formatOf_writeWord (by decide) _
theorem wrReserved (r x : Byte) : Statement (.wrReserved r x) := fun h =>
  (congrArg formatOf (regByte_hostWord r x)).trans (formatOf_reserved h)
theorem rd (r x : Byte) : Statement (.rd r x) := fun h =>
  (congrArg formatOf (regByte_hostWord r x)).trans (formatOf_read h)

end Sys2Proof.Laws.WordFormat
end

