-- ==== Sys2Proof/Tests/Slice0.lean ====
section
/-! SUPPORT. The model's own tests: ill-formed terms, words written out from the encoding column of
spec/opcode_table.json, single steps with the results of 95_test_vectors.md, and a witness for the hypotheses of each
statement that has some. -/

namespace Sys2Proof.Tests

open Sys2Proof Sys2Proof.Machine

-- The theorems one after another, so that the module compiles in little memory.
set_option Elab.async false

/-! ## Helpers -/

/-- The reset state with the seeds that 95_test_vectors.md P1 chooses. -/
def base : State := State.resetWith 0xACE1 0x12345678

/-- A controller that answers these bytes. -/
def answers (l : List Byte) : List Reply := l.map .answer

/-- The state a step ends in. -/
def nextOf : Result → Option State
  | .next t => some t
  | .fault _ => none
  | .refused _ => none

/-- The latches of an operation with all three budgets `b`. -/
def latched (op : XOp) (b : Word) : Latches :=
  { xop := op, xcyl := 0x05, xrst := false, xhead := 0x01, xsec := 0x07, xt1 := b, xt2 := b, xt3 := b }

/-- A transaction in the handshake state `st`, with the wait counter at `w` and a controller that answers `l`. -/
def busyAt (st : St) (op : XOp) (b w : Word) (l : List Byte) : State :=
  { base with st := st, x := latched op b, wcnt := w, replies := answers l }

/-- The state after the timeout of a wait stage. -/
def abortedBase : State := { base with st := .aborted, reason := .addrAcceptTimeout, wcnt := 1 }

/-! ## WellFormed: the ill-formed terms, one for each check -/

theorem test_wellFormed_adv16_count : Instr.wellFormed (.adv16 0) = false ∧ Instr.wellFormed (.adv16 17) = false := by
  decide

theorem test_wellFormed_adv31_count : Instr.wellFormed (.adv31 0) = false ∧ Instr.wellFormed (.adv31 31) = false := by
  decide

theorem test_wellFormed_reservedCmd : Instr.wellFormed (.reservedCmd 0x30) = false ∧
    Instr.wellFormed (.reservedCmd 0x1F) = false := by decide

theorem test_wellFormed_wrReserved : Instr.wellFormed (.wrReserved 0x12 0x5A) = false ∧
    Instr.wellFormed (.wrReserved 0x80 0x5A) = false := by decide

theorem test_wellFormed_rd : Instr.wellFormed (.rd 0x7F 0x00) = false := by decide

/-! ## Decode: words written out from the encoding column of spec/opcode_table.json -/

theorem test_decode_commands :
    decodeWord 0b0000000000000000 = .nop ∧ decodeWord 0b0000000000010000 = .adv16 1 ∧
    decodeWord 0b0000000000011110 = .adv16 15 ∧ decodeWord 0b0000000000101111 = .adv31 16 ∧
    decodeWord 0b0000000000110000 = .byte16_8 ∧ decodeWord 0b0000000000110001 = .byte16_16 ∧
    decodeWord 0b0000000000110010 = .byte31_8 ∧ decodeWord 0b0000000000110011 = .byte31_16 ∧
    decodeWord 0b0000000000111000 = .seed16 ∧ decodeWord 0b0000000000111001 = .seed31 := by decide

theorem test_decode_handshake_and_control :
    decodeWord 0b0000000001000000 = .xseek ∧ decodeWord 0b0000000001000001 = .xread ∧
    decodeWord 0b0000000001000010 = .xwrite ∧ decodeWord 0b0000000001001000 = .ack ∧
    decodeWord 0b0000000001010000 = .readychk ∧ decodeWord 0b0000000001100000 = .devx ∧
    decodeWord 0b0000000011111111 = .srst ∧ decodeWord 0b0000000000110100 = .reservedCmd 0x34 ∧
    decodeWord 0b0000000011111110 = .reservedCmd 0xFE ∧ decodeWord 0b0000000000000001 = .reservedCmd 0x01 := by decide

theorem test_decode_writes_low :
    decodeWord 0b0000000110100101 = .wrCylLo 0xA5 ∧ decodeWord 0b0000001010100101 = .wrCylHi 0xA5 ∧
    decodeWord 0b0000001110100101 = .wrHead 0xA5 ∧ decodeWord 0b0000010010100101 = .wrSector 0xA5 ∧
    decodeWord 0b0000010110100101 = .wrT1Lo 0xA5 ∧ decodeWord 0b0000011010100101 = .wrT1Hi 0xA5 ∧
    decodeWord 0b0000011110100101 = .wrT2Lo 0xA5 ∧ decodeWord 0b0000100010100101 = .wrT2Hi 0xA5 ∧
    decodeWord 0b0000100110100101 = .wrT3Lo 0xA5 ∧ decodeWord 0b0000101010100101 = .wrT3Hi 0xA5 := by decide

theorem test_decode_writes_high :
    decodeWord 0b0000101110100101 = .wrSeed16Lo 0xA5 ∧ decodeWord 0b0000110010100101 = .wrSeed16Hi 0xA5 ∧
    decodeWord 0b0000110110100101 = .wrSeed31B0 0xA5 ∧ decodeWord 0b0000111010100101 = .wrSeed31B1 0xA5 ∧
    decodeWord 0b0000111110100101 = .wrSeed31B2 0xA5 ∧ decodeWord 0b0001000010100101 = .wrSeed31B3 0xA5 ∧
    decodeWord 0b0001000110100101 = .wrDevReg 0xA5 ∧ decodeWord 0b0001001010100101 = .wrDevData 0xA5 := by decide

theorem test_decode_reserved_and_reads :
    decodeWord 0b0001001101011010 = .wrReserved 0x13 0x5A ∧ decodeWord 0b0111111111111111 = .wrReserved 0x7F 0xFF ∧
    decodeWord 0b1000000001110111 = .rd 0x80 0x77 ∧ decodeWord 0b1111111100000000 = .rd 0xFF 0x00 := by decide

/-- Two bytes, the register number first; no other length is a host transaction (30_encoding.md R70, R76). -/
theorem test_decode_bytes :
    (match decode [0x05, 0x03] with | .ok i => i = .wrT1Lo 0x03 | .error _ => False) ∧
    (match decode [0x05] with | .ok _ => False | .error e => e = .tooShort) ∧
    (match decode [0x05, 0x03, 0x00] with | .ok _ => False | .error e => e = .tooLong) := by
  refine ⟨?_, ?_, ?_⟩ <;> rfl

theorem test_decodeTableWord :
    decodeTableWord 16 0x0041 = some .xread ∧ decodeTableWord 8 0x41 = some .xread ∧ decodeTableWord 24 0x0041 = none := by
  decide

/-! ## Single steps of the LFSR commands (95_test_vectors.md V-LFSR16, V-LFSR31, V-SEED) -/

theorem test_adv16_counts :
    (nextOf (exec (decodeXact 0x00 0x10) base)).map (·.l16) = some 0xD670 ∧
    (nextOf (exec (decodeXact 0x00 0x12) base)).map (·.l16) = some 0xB59C ∧
    (nextOf (exec (decodeXact 0x00 0x1F) base)).map (·.l16) = some 0x60DD := by decide +kernel

theorem test_adv16_stuck :
    (nextOf (exec (.adv16 16) { base with l16 := 0xFFFF })).map (·.l16) = some 0xFFFF ∧
    (nextOf (exec (.adv16 1) { base with l16 := 0x0000 })).map (·.l16) = some 0x8000 := by decide +kernel

theorem test_adv31_counts :
    (nextOf (exec (decodeXact 0x00 0x20) base)).map (·.l31) = some 0x091A2B3C ∧
    (nextOf (exec (decodeXact 0x00 0x2E) base)).map (·.l31) = some 0x1D062468 ∧
    (nextOf (exec (decodeXact 0x00 0x2F) base)).map (·.l31) = some 0x4E831234 := by decide +kernel

theorem test_adv31_stuck :
    (nextOf (exec (.adv31 16) { base with l31 := 0x7FFFFFFF })).map (·.l31) = some 0x7FFFFFFF := by decide +kernel

theorem test_byte16_8 :
    (nextOf (exec .byte16_8 { base with l16 := 0x0001 })).map (fun t => (t.out, t.l16)) = some (0x00, 0xFE00) := by decide +kernel

theorem test_byte16_16 : (nextOf (exec .byte16_16 base)).map (fun t => (t.out, t.l16)) = some (0xDD, 0x60DD) := by decide +kernel

theorem test_byte31_8 : (nextOf (exec .byte31_8 base)).map (fun t => (t.out, t.l31)) = some (0x56, 0x03123456) := by decide +kernel

theorem test_byte31_16 : (nextOf (exec .byte31_16 base)).map (fun t => (t.out, t.l31)) = some (0x34, 0x4E831234) := by
  decide +kernel

theorem test_seed16 :
    (nextOf (exec .seed16 { base with
      h := { base.h with seed16Lo := 0xE1, seed16Hi := 0xAC }, l16 := 0 })).map (·.l16) = some 0xACE1 := by decide

theorem test_seed31 :
    (nextOf (exec .seed31 { base with
      h := { base.h with seed31B0 := 0x78, seed31B1 := 0x56, seed31B2 := 0x34, seed31B3 := 0x92 }, l31 := 0 })).map
      (fun t => (t.l31, t.hostReg 0xD0, t.hostReg 0x88)) = some (0x12345678, 0x92, 0x12) := by decide

/-! ## Single steps of the handshake (95_test_vectors.md V-HS, V-BUSY, P2, P3) -/

/-- HS6: the seek byte carries RESTORE, and CYL_HI[6:0] is not sent. HS1: a budget of 0 acts as 1. -/
theorem test_xseek :
    (nextOf (exec .xseek { base with
      h := { base.h with cylLo := 0xCB, cylHi := 0xFF, t1Lo := 0x00 }, replies := answers [0x00, 0x00] })).map
      (fun t => (t.sent, t.stateByte, t.x.xt1)) = some ([(0x00, 0xCB), (0x03, 0x11)], 0x81, 1) := by decide

/-- HS9: a start in ABORTED is accepted and clears the reason. -/
theorem test_xseek_from_aborted :
    (nextOf (exec .xseek { abortedBase with replies := answers [0x00, 0x00] })).map
      (fun t => (t.stateByte, t.wcnt)) = some (0x81, 0) := by decide

/-- P2, and the refusal of V-BUSY. -/
theorem test_xread :
    (nextOf (exec .xread { base with h := { base.h with cylLo := 0x05 }, replies := answers [0x00, 0x00] })).map
      (fun t => (t.sent, t.x.xop)) = some ([(0x00, 0x05), (0x03, 0x01)], .read) := by decide

theorem test_xread_refused :
    (nextOf (exec .xread { busyAt .seekIssued .seek 10 0 [] with h := { base.h with cmd := 0x40 } })).map
      (fun t => (t.hostRets, t.flags.byte, t.stateByte, t.draws)) = some ([0x40], 0x01, 0x81, 0) := by decide

theorem test_xwrite :
    (nextOf (exec .xwrite { base with
      st := .done, h := { base.h with cmd := 0x41, cylLo := 0xCA, cylHi := 0x80 }, replies := answers [0x00, 0x00] })).map
      (fun t => (t.hostRets, t.sent, t.x.xop)) = some ([0x41], [(0x00, 0xCA), (0x03, 0x11)], .write) := by decide

/-- V-ACK. -/
theorem test_ack :
    (nextOf (exec .ack { abortedBase with
      wcnt := 3, lastS1 := 0x01, flags := { errBusy := false, errIllegal := true, ready := false, readyValid := true } })).map
      (fun t => (t.stateByte, t.flags.byte, t.wcnt, t.lastS1)) = some (0x00, 0x08, 3, 0x01) := by decide

theorem test_ack_refused :
    (nextOf (exec .ack (busyAt .seekIssued .seek 10 0 []))).map (fun t => (t.flags.byte, t.stateByte)) =
      some (0x01, 0x81) := by decide

/-- V-READYCHK, all five rows. -/
theorem test_readychk :
    ([(0x0C, 0x01), (0x1C, 0x01), (0x04, 0x01), (0x0C, 0x00), (0x4C, 0xFF)] : List (Byte × Byte)).map (fun p =>
      (nextOf (exec .readychk { base with replies := answers [p.1, p.2] })).map (·.flags.byte)) =
    [some 0x0C, some 0x08, some 0x08, some 0x08, some 0x0C] := by decide

theorem test_readychk_records :
    (nextOf (exec .readychk { base with replies := answers [0x0C, 0x01] })).map
      (fun t => (t.sent, t.lastS1, t.lastS2)) = some ([(0x80, 0x00), (0x81, 0x00)], 0x0C, 0x01) := by decide

/-- The polls of HS1, HS2 and HS8. -/
theorem test_tick_seekIssued :
    (nextOf (tick (busyAt .seekIssued .seek 1 0 [0x00, 0x00]))).map (fun t => (t.stateByte, t.wcnt, t.sent)) =
      some (0x16, 1, [(0x80, 0x00), (0x03, 0x08)]) ∧
    (nextOf (tick (busyAt .seekIssued .seek 2 1 [0x40]))).map (fun t => (t.stateByte, t.wcnt)) = some (0x82, 0) ∧
    (nextOf (tick (busyAt .seekIssued .seek 2 1 [0xBF, 0x00]))).map (fun t => (t.stateByte, t.wcnt, t.lastS1)) =
      some (0x16, 2, 0xBF) := by decide

/-- The polls of HS3 and P2 #4. -/
theorem test_tick_addrAccepted :
    (nextOf (tick (busyAt .addrAccepted .read 2 1 [0x00, 0x00]))).map (fun t => (t.stateByte, t.wcnt, t.sent)) =
      some (0x26, 2, [(0x81, 0x00), (0x03, 0x08)]) ∧
    (nextOf (tick (busyAt .addrAccepted .read 3 1 [0x01]))).map (fun t => (t.stateByte, t.wcnt)) = some (0x83, 1) := by
  decide

/-- HS6 (a seek ends) and P2 #5 (a read is issued). -/
theorem test_tick_driveReady :
    (nextOf (tick (busyAt .driveReady .seek 1 0 []))).map (fun t => (t.stateByte, t.sent)) = some (0x05, []) ∧
    (nextOf (tick (busyAt .driveReady .read 3 1 [0x00, 0x00, 0x00]))).map (fun t => (t.stateByte, t.wcnt, t.sent)) =
      some (0x84, 0, [(0x01, 0x01), (0x02, 0x07), (0x03, 0x02)]) := by decide

/-- HS4 (a write that never ends) and HS5 (a write ignores read-in-progress). -/
theorem test_tick_commandIssued :
    (nextOf (tick (busyAt .commandIssued .write 1 0 [0x80, 0x00]))).map (fun t => (t.stateByte, t.wcnt, t.lastS2)) =
      some (0x36, 1, 0x80) ∧
    (nextOf (tick (busyAt .commandIssued .write 1 0 [0x40]))).map (fun t => (t.stateByte, t.wcnt)) = some (0x05, 0) := by
  decide

/-! ## Single steps of the device shim, the control commands and the host port (V-DEVX, V-SRST, V-CTRL, V-HOST) -/

theorem test_devx :
    (nextOf (exec .devx { base with
      h := { base.h with devReg := 0x55, devData := 0xA5 }, replies := answers [0x4C] })).map
      (fun t => (t.sent, t.devPrev, t.lastS1)) = some ([(0x55, 0xA5)], 0x4C, 0x00) := by decide

theorem test_devx_refused :
    (nextOf (exec .devx (busyAt .seekIssued .seek 10 0 [0x4C]))).map (fun t => (t.flags.byte, t.devPrev, t.sent)) =
      some (0x01, 0x00, []) := by decide

/-- V-SRST; the seeds are OPEN, so only the fields the spec fixes are compared. -/
theorem test_srst :
    (nextOf (exec .srst { busyAt .seekIssued .seek 10 3 [] with h := { base.h with cmd := 0x40, t1Lo := 0x03 } })).map
      (fun t => (t.hostRets, [t.stateByte, t.flags.byte, t.hostReg 0xC0], t.h.t1, t.draws)) =
    some ([0x40], [0x00, 0x00, 0x00], 10, 0) := by decide

theorem test_nop :
    (nextOf (exec .nop { base with h := { base.h with cmd := 0x41 } })).map (fun t => (t.hostRets, t.h.cmd)) =
      some ([0x41], 0x00) := by decide

theorem test_reservedCmd :
    (nextOf (exec (.reservedCmd 0x34) (busyAt .seekIssued .seek 10 1 []))).map
      (fun t => (t.flags.byte, t.hostReg 0xC0, t.stateByte, t.wcnt)) = some (0x02, 0x34, 0x81, 1) := by decide

theorem test_wrT1Lo :
    (nextOf (exec (decodeXact 0x05 0x03) base)).map (fun t => (t.hostRets, t.h.t1)) = some ([0x0A], 3) := by decide

theorem test_wrReserved : nextOf (exec (decodeXact 0x13 0x5A) base) = some { base with hostRets := [0x00] } := by decide

theorem test_rd_generators :
    ([0x83, 0x84, 0x85, 0x86, 0x87, 0x88] : List Byte).map (fun r =>
      (nextOf (exec (.rd r 0x77) base)).map (·.hostRets)) =
    [some [0xE1], some [0xAC], some [0x78], some [0x56], some [0x34], some [0x12]] := by decide

theorem test_rd_readback_and_reserved :
    ([0xC5, 0xC6, 0xC7, 0xC8, 0xC9, 0xCA, 0x8E, 0xBF, 0xD3, 0xFF] : List Byte).map (fun r =>
      (nextOf (exec (.rd r 0x00) base)).map (·.hostRets)) =
    [some [0x0A], some [0x00], some [0xE8], some [0x03], some [0xE8], some [0x03], some [0x00], some [0x00], some [0x00],
      some [0x00]] := by decide

/-! ## Witnesses: for each statement with hypotheses, concrete inputs that meet them together -/

/-- A step that completes with `P` is told by evaluating it. -/
theorem next_of {r : Result} {P : State → Prop} [DecidablePred P] (h : (nextOf r).any (fun t => decide (P t)) = true) :
    ∃ t, r = .next t ∧ P t := by
  cases r with
  | next t => exact ⟨t, rfl, by simpa [nextOf] using h⟩
  | fault f => simp [nextOf] at h
  | refused q => simp [nextOf] at h

/-- `base` with these events to come and a controller that answers `l`. -/
def withEvents (es : List Event) (l : List Byte) : State := { base with events := es, replies := answers l }

/-- A transaction in progress with these events to come. -/
def busyEvents (es : List Event) (st : St) (op : XOp) (b w : Word) (l : List Byte) : State :=
  { busyAt st op b w l with events := es }

theorem witness_DecodeOfEncodeGivesInstruction :
    ∀ i ∈ [Instr.nop, .adv16 1, .adv16 16, .adv31 1, .adv31 16, .reservedCmd 0x01, .reservedCmd 0xFE, .wrReserved 0x13 0x00,
      .wrReserved 0x7F 0xFF, .rd 0x80 0x00, .rd 0xFF 0xFF], i.wellFormed = true := by decide

theorem witness_CommandCodesDecodeAsTheMapSays :
    ∀ d ∈ ([0x01, 0x0F, 0x34, 0x43, 0xFE] : List Byte), d.extractLsb' 4 4 ≠ 0x1 ∧ d.extractLsb' 4 4 ≠ 0x2 ∧
      d ∉ ([0x00, 0x30, 0x31, 0x32, 0x33, 0x38, 0x39, 0x40, 0x41, 0x42, 0x48, 0x50, 0x60, 0xFF] : List Byte) := by decide

theorem witness_StepRunsTheDecodedInstruction :
    Instr.wellFormed (.adv16 16) = true ∧
    (withEvents [.host 0x00 0x1F, .tick] []).events =
      .host (regByte (encode (.adv16 16))) (dataByte (encode (.adv16 16))) :: [.tick] := by decide

theorem witness_StepOnTickPowerOnAndNoEvent :
    (withEvents [.tick, .powerOn] []).events = .tick :: [.powerOn] ∧
    (withEvents [.powerOn] []).events = .powerOn :: [] ∧ (withEvents [] []).events = [] := by decide

theorem witness_Gen16VisitsEachValueOnce : (0x0000 : Gen16) ≠ 0xFFFF ∧ (0xACE1 : Gen16) ≠ 0xFFFF := by decide

theorem witness_Gen31VisitsEachValueOnce : (0x00000000 : Gen31) ≠ 0x7FFFFFFF ∧ (0x12345678 : Gen31) ≠ 0x7FFFFFFF := by
  decide

theorem witness_AdvanceCommandsMoveTheirGenerator : ∀ n ∈ ([1, 16] : List (BitVec 5)), 1 ≤ n ∧ n ≤ 16 := by decide

theorem witness_AdvanceCountsAddUp :
    (∀ i ∈ [Instr.adv16 3, .byte16_8, .byte16_16], (count16 i).isSome = true) ∧
    (∀ i ∈ [Instr.adv31 3, .byte31_8, .byte31_16], (count31 i).isSome = true) := by decide

theorem witness_LfsrCommandsAreIndependent :
    (∀ i ∈ [Instr.adv16 1, .byte16_8, .byte16_16], (count16 i).isSome = true) ∧
    (∀ i ∈ [Instr.adv31 1, .byte31_8, .byte31_16], (count31 i).isSome = true) := by decide

theorem witness_HostTransactionReturnsWhatStoodThere :
    (∃ t, exec (decodeXact 0x05 0x03) base = .next t ∧ t.hostRets = [0x0A]) ∧
    (∃ t, exec (decodeXact 0xFF 0x00) base = .next t ∧ t.hostRets = [0x00]) := ⟨next_of (by decide), next_of (by decide)⟩

theorem witness_WritableRegistersExchange :
    (∃ t, exec (decodeXact 0x00 0xFF) base = .next t ∧ t.h.cmd = 0x00) ∧
    (∃ t, exec (decodeXact 0x00 0x34) base = .next t ∧ t.h.cmd = 0x34) := ⟨next_of (by decide), next_of (by decide)⟩

theorem witness_ReadOnlyRegistersRead :
    ∀ r ∈ ([0x8E, 0xBF, 0xD3, 0xFF] : List Byte), (0x8E ≤ r ∧ r ≤ 0xBF) ∨ 0xD3 ≤ r := by decide

theorem witness_ReservedNumbersHaveNoEffect :
    ∀ r ∈ ([0x13, 0x7F, 0x8E, 0xBF, 0xD3, 0xFF] : List Byte),
      (0x13 ≤ r ∧ r ≤ 0x7F) ∨ (0x8E ≤ r ∧ r ≤ 0xBF) ∨ 0xD3 ≤ r := by decide

theorem witness_RepeatedTransactions : HReg.cylLo ≠ .cmd ∧ HReg.devData ≠ .cmd := by decide

theorem witness_WritableRegistersChangeOnlyByExchange :
    (∃ t, step (withEvents [.host 0x05 0x03] []) = .next t ∧ t.h.get .t1Lo ≠ base.h.get .t1Lo) ∧
    (∃ t, step { withEvents [.host 0x00 0xFF] [] with h := { base.h with t1Lo := 0x03 } } = .next t ∧
      t.h.get .t1Lo ≠ 0x03) ∧
    (∃ t, step { withEvents [.powerOn] [] with h := { base.h with t1Lo := 0x03 } } = .next t ∧ t.h.get .t1Lo ≠ 0x03) :=
  ⟨next_of (by decide), next_of (by decide), next_of (by decide)⟩

theorem witness_ReservedCodesSetErrIllegal : ∀ d ∈ ([0x01, 0x34, 0xFE] : List Byte), reservedCode d = true := by decide

theorem witness_BusyRefusesAndOutcomesAreReplaced :
    (busyAt .seekIssued .seek 10 0 []).busy = true ∧ (busyAt .commandIssued .read 10 0 []).busy = true ∧
    (abortedBase.st = .done ∨ abortedBase.st = .aborted) ∧ Reply.silent ∉ abortedBase.replies := by decide

theorem witness_StickyFlagsHaveTheirOnlyCauses :
    (∃ t, step (busyEvents [.host 0x00 0x48] .seekIssued .seek 10 0 []) = .next t ∧ t.flags.errBusy = true) ∧
    (∃ t, step (withEvents [.host 0x00 0x34] []) = .next t ∧ t.flags.errIllegal = true) ∧
    (∃ t, step { withEvents [.host 0x00 0x48] [] with flags := (base.flags.raise .busy).raise .illegal } = .next t ∧
      t.flags.errBusy = false ∧ t.flags.errIllegal = false) ∧
    (∃ t, step { withEvents [.tick] [] with flags := base.flags.checked true } = .next t ∧ t.flags.ready = true) :=
  ⟨next_of (by decide), next_of (by decide), next_of (by decide), next_of (by decide)⟩

theorem witness_StartCommandsLatchAndSeek :
    let s := withEvents [] [0x00, 0x00]
    (Instr.xwrite, XOp.write, (0x42 : Byte)) ∈
      [(Instr.xseek, XOp.seek, (0x40 : Byte)), (.xread, .read, 0x41), (.xwrite, .write, 0x42)] ∧ s.busy = false ∧
    controllerReply s 0 0x00 s.h.cylLo = some 0x00 ∧
    controllerReply s 1 0x03 (if s.h.cylHi.getLsbD 7 then 0x11 else 0x01) = some 0x00 := by decide

theorem witness_TickInSeekIssuedPollsStatus1 :
    (let s := busyAt .seekIssued .seek 1 0 [0x40];
      s.st = .seekIssued ∧ controllerReply s 0 0x80 0x00 = some 0x40 ∧ (0x40 : Byte).getLsbD 6 = true) ∧
    (let s := busyAt .seekIssued .seek 2 0 [0xBF];
      controllerReply s 0 0x80 0x00 = some 0xBF ∧ (0xBF : Byte).getLsbD 6 = false ∧ s.wcnt + 1 ≠ s.x.xt1) ∧
    (let s := busyAt .seekIssued .seek 0xFFFF 0xFFFE [0xBF, 0x00];
      controllerReply s 0 0x80 0x00 = some 0xBF ∧ s.wcnt + 1 = s.x.xt1 ∧ controllerReply s 1 0x03 0x08 = some 0x00) := by
  decide

theorem witness_TickInAddrAcceptedPollsReady :
    (let s := busyAt .addrAccepted .seek 1 0 [0x01];
      s.st = .addrAccepted ∧ controllerReply s 0 0x81 0x00 = some 0x01 ∧ (0x01 : Byte).getLsbD 0 = true) ∧
    (let s := busyAt .addrAccepted .seek 2 0 [0xFE];
      controllerReply s 0 0x81 0x00 = some 0xFE ∧ (0xFE : Byte).getLsbD 0 = false ∧ s.wcnt + 1 ≠ s.x.xt2) ∧
    (let s := busyAt .addrAccepted .seek 0xFFFF 0xFFFE [0xFE, 0x00];
      controllerReply s 0 0x81 0x00 = some 0xFE ∧ s.wcnt + 1 = s.x.xt2 ∧ controllerReply s 1 0x03 0x08 = some 0x00) := by
  decide

theorem witness_TickInDriveReadyIssuesTheCommand :
    (let s := busyAt .driveReady .seek 1 0 [];
      s.st = .driveReady ∧ s.x.xop = .seek) ∧
    (let s := busyAt .driveReady .write 1 0 [0x00, 0x01, 0x02];
      s.st = .driveReady ∧ s.x.xop ≠ .seek ∧ controllerReply s 0 0x01 s.x.xhead = some 0x00 ∧
        controllerReply s 1 0x02 s.x.xsec = some 0x01 ∧
        controllerReply s 2 0x03 (if s.x.xop = .read then 0x02 else 0x04) = some 0x02) := by decide

theorem witness_TickInCommandIssuedPollsCompletion :
    (let s := busyAt .commandIssued .read 1 0 [0x80];
      s.st = .commandIssued ∧ s.x.xop ≠ .seek ∧ controllerReply s 0 0x81 0x00 = some 0x80 ∧
        (0x80 : Byte).getLsbD 6 = false) ∧
    (let s := busyAt .commandIssued .write 2 0 [0x80];
      s.x.xop ≠ .seek ∧ controllerReply s 0 0x81 0x00 = some 0x80 ∧ (0x80 : Byte).getLsbD 7 = true ∧
        s.wcnt + 1 ≠ s.x.xt3) ∧
    (let s := busyAt .commandIssued .write 0xFFFF 0xFFFE [0x80, 0x00];
      controllerReply s 0 0x81 0x00 = some 0x80 ∧ s.wcnt + 1 = s.x.xt3 ∧ controllerReply s 1 0x03 0x08 = some 0x00) := by
  decide

theorem witness_TickTouchesOnlyTheEngine :
    (∃ t, tick base = .next t ∧ t.st = .idle) ∧
    (∃ t, tick (busyAt .seekIssued .seek 1 0 [0x40]) = .next t ∧ t.st = .addrAccepted) ∧
    (∃ t, tick (busyAt .addrAccepted .seek 1 0 [0x01]) = .next t ∧ t.st = .driveReady) ∧
    (∃ t, tick (busyAt .driveReady .read 1 0 [0x00, 0x00, 0x00]) = .next t ∧ t.st = .commandIssued) ∧
    (∃ t, tick (busyAt .commandIssued .read 1 0 [0x00]) = .next t ∧ t.st = .done) :=
  ⟨next_of (by decide), next_of (by decide), next_of (by decide), next_of (by decide), next_of (by decide)⟩

/-- One state for each row of the table of 41_handshake.md R100, and three that no row moves. -/
theorem witness_HandshakeTransitionsAreTheTable :
    ∀ p ∈ [(withEvents [.host 0x00 0x41] [0x00, 0x00], St.seekIssued),
      (busyEvents [.tick] .seekIssued .seek 1 0 [0x40], .addrAccepted),
      (busyEvents [.tick] .seekIssued .seek 1 0 [0x00, 0x00], .aborted),
      (busyEvents [.tick] .addrAccepted .seek 1 0 [0x01], .driveReady),
      (busyEvents [.tick] .addrAccepted .seek 1 0 [0x00, 0x00], .aborted),
      (busyEvents [.tick] .driveReady .seek 1 0 [], .done),
      (busyEvents [.tick] .driveReady .read 1 0 [0x00, 0x00, 0x00], .commandIssued),
      (busyEvents [.tick] .commandIssued .write 1 0 [0x40], .done),
      (busyEvents [.tick] .commandIssued .write 1 0 [0x80, 0x00], .aborted),
      ({ abortedBase with events := [.host 0x00 0x48] }, .idle),
      (busyEvents [.host 0x00 0xFF] .commandIssued .read 1 0 [], .idle),
      (busyEvents [.powerOn] .commandIssued .read 1 0 [], .idle),
      (busyEvents [.host 0x00 0x48] .commandIssued .read 1 0 [], .commandIssued),
      (busyEvents [.host 0x01 0x40] .commandIssued .read 1 0 [], .commandIssued),
      (withEvents [] [], .idle)],
      (nextOf (step p.1)).map (·.st) = some p.2 := by decide

theorem witness_OutcomesAreTerminal :
    (abortedBase.st = .done ∨ abortedBase.st = .aborted) ∧
    (∃ t, step { abortedBase with events := [.host 0x00 0x48] } = .next t ∧ t.st ≠ abortedBase.st) ∧
    (∃ t, step { abortedBase with events := [.host 0x00 0x60], replies := answers [0x00] } = .next t ∧
      t.devLog ≠ abortedBase.devLog) :=
  ⟨.inr rfl, next_of (by decide), next_of (by decide)⟩

theorem witness_AckClearsOutcomeAndStickyErrors :
    abortedBase.busy = false ∧ (busyAt .driveReady .seek 1 0 []).busy = true := by decide

theorem witness_ReadychkReportsTheFourBits :
    (let s := withEvents [] [0x0C, 0x01];
      s.busy = false ∧ controllerReply s 0 0x80 0x00 = some 0x0C ∧ controllerReply s 1 0x81 0x00 = some 0x01) ∧
    (busyAt .addrAccepted .seek 1 0 []).busy = true := by decide

theorem witness_DevxPassesOneTransactionThrough :
    (let s := withEvents [] [0x4C];
      s.busy = false ∧ controllerReply s 0 s.h.devReg s.h.devData = some 0x4C) ∧
    (busyAt .addrAccepted .seek 1 0 []).busy = true := by decide

theorem witness_InvariantKeptByEveryStep :
    let s := busyEvents [.tick] .seekIssued .seek 1 0 [0x00, 0x00]
    s.Inv ∧ ∃ t, step s = .next t ∧ t.Inv := ⟨by decide, next_of (by decide)⟩

theorem witness_InvariantKeptByEveryStep_commandIssued :
    let s := { busyEvents [.tick] .commandIssued .read 2 0 [0x40] with devLog := [⟨0x03, 0x02, 0x00⟩] }
    s.Inv ∧ ∃ t, step s = .next t ∧ t.st = .commandIssued ∧ t.Inv := ⟨by decide, next_of (by decide)⟩

theorem witness_WaitCounterCountsFailedPolls :
    (let s := busyEvents [.tick] .seekIssued .seek 3 1 [0x40];
      s.countFits = true ∧ ∃ t, step s = .next t ∧ t.wcnt ≠ s.wcnt) ∧
    (let s := busyEvents [.host 0x00 0xFF] .seekIssued .seek 3 1 [];
      s.countFits = true ∧ ∃ t, step s = .next t ∧ t.wcnt ≠ s.wcnt) ∧
    (let s := busyEvents [.tick] .seekIssued .seek 3 1 [0x00];
      s.countFits = true ∧ ∃ t, step s = .next t ∧ t.wcnt ≠ s.wcnt) :=
  ⟨⟨by decide, next_of (by decide)⟩, ⟨by decide, next_of (by decide)⟩, ⟨by decide, next_of (by decide)⟩⟩

theorem witness_StageTimesOutAfterExactlyItsBudget :
    ∀ st ∈ [St.seekIssued, .addrAccepted, .commandIssued],
      let s := busyEvents (List.replicate 2 .tick ++ [.host 0x80 0x00]) st .write 2 0 [0x80, 0x80, 0x00]
      s.st.waits = true ∧ s.wcnt = 0 ∧ 2 = (s.x.budget s.st).toNat ∧
      s.events = List.replicate 2 .tick ++ [.host 0x80 0x00] ∧
      (∀ k, k < 2 → controllerReply s k s.st.pollReg 0x00 = some 0x80 ∧ s.x.awaited s.st 0x80 = false) ∧
      controllerReply s 2 0x03 0x08 = some 0x00 := by decide

theorem witness_StageTimesOutAfterExactlyItsBudget_succeeds :
    let s := busyAt .seekIssued .seek 2 1 [0x40]
    s.st.waits = true ∧ controllerReply s 0 s.st.pollReg 0x00 = some 0x40 ∧ s.x.awaited s.st 0x40 = true := by decide

theorem witness_SeekNeverAcceptedAbortsAfterXt1Ticks :
    let s := { withEvents (.host 0x00 0x40 :: (List.replicate 1 .tick ++ [])) [0x00, 0x00, 0xBF, 0x00] with
      h := { base.h with t1Lo := 0x00 } }
    s.busy = false ∧ 1 = (if s.h.t1Hi ++ s.h.t1Lo = 0#16 then 1 else (s.h.t1Hi ++ s.h.t1Lo).toNat) ∧
    s.events = .host (regByte (encode .xseek)) (dataByte (encode .xseek)) :: (List.replicate 1 .tick ++ []) ∧
    controllerReply s 0 0x00 s.h.cylLo = some 0x00 ∧
    controllerReply s 1 0x03 (if s.h.cylHi.getLsbD 7 then 0x11 else 0x01) = some 0x00 ∧
    (∀ k, k < 1 → controllerReply s (2 + k) 0x80 0x00 = some 0xBF ∧ (0xBF : Byte).getLsbD 6 = false) ∧
    controllerReply s (2 + 1) 0x03 0x08 = some 0x00 := by decide

/-- The READ of 95_test_vectors.md P2 with all three budgets 2, so that each stage succeeds on its last poll. -/
theorem witness_TransferSucceedsOnTickABC :
    let s := { withEvents (.host 0x00 0x41 :: (List.replicate (2 + 2 + 1 + 2) .tick ++ []))
        [0x00, 0x00, 0x00, 0x40, 0x00, 0x01, 0x00, 0x00, 0x00, 0x40, 0x00] with
      h := { base.h with t1Lo := 0x02, t2Lo := 0x02, t2Hi := 0x00, t3Lo := 0x02, t3Hi := 0x00 } }
    s.busy = false ∧ 2 ≤ (effectiveBudget (s.h.t1Hi ++ s.h.t1Lo)).toNat ∧
    2 ≤ (effectiveBudget (s.h.t2Hi ++ s.h.t2Lo)).toNat ∧ 2 ≤ (effectiveBudget (s.h.t3Hi ++ s.h.t3Lo)).toNat ∧
    s.events = .host (regByte (encode .xread)) (dataByte (encode .xread)) ::
      (List.replicate (2 + 2 + 1 + 2) .tick ++ []) ∧
    controllerReply s 0 0x00 s.h.cylLo = some 0x00 ∧
    controllerReply s 1 0x03 (if s.h.cylHi.getLsbD 7 then 0x11 else 0x01) = some 0x00 ∧
    (∀ k, k < 2 → (controllerReply s (2 + k) 0x80 0x00).any (fun v => v.getLsbD 6 = decide (k + 1 = 2))) ∧
    (∀ k, k < 2 → (controllerReply s (2 + 2 + k) 0x81 0x00).any (fun v => v.getLsbD 0 = decide (k + 1 = 2))) ∧
    controllerReply s (2 + 2 + 2) 0x01 s.h.head = some 0x00 ∧
    controllerReply s (2 + 2 + 2 + 1) 0x02 s.h.sector = some 0x00 ∧
    controllerReply s (2 + 2 + 2 + 2) 0x03 0x02 = some 0x00 ∧
    (∀ k, k < 2 → (controllerReply s (2 + 2 + 2 + 3 + k) 0x81 0x00).any (fun v => v.getLsbD 6 = !decide (k + 1 = 2))) := by
  decide

/-- The WRITE of P2 in one poll a stage, its last Status2 byte with read-in-progress set. -/
theorem witness_TransferSucceedsOnTickABC_write :
    let s := withEvents (.host 0x00 0x42 :: (List.replicate (1 + 1 + 1 + 1) .tick ++ []))
      [0x00, 0x00, 0x40, 0x01, 0x00, 0x00, 0x00, 0x40]
    (Instr.xwrite, (0x04 : Byte), 7) ∈ [(Instr.xread, (0x02 : Byte), 6), (.xwrite, 0x04, 7)] ∧ s.busy = false ∧
    1 ≤ (effectiveBudget (s.h.t1Hi ++ s.h.t1Lo)).toNat ∧ 1 ≤ (effectiveBudget (s.h.t2Hi ++ s.h.t2Lo)).toNat ∧
    1 ≤ (effectiveBudget (s.h.t3Hi ++ s.h.t3Lo)).toNat ∧
    s.events = .host (regByte (encode .xwrite)) (dataByte (encode .xwrite)) ::
      (List.replicate (1 + 1 + 1 + 1) .tick ++ []) ∧
    controllerReply s 0 0x00 s.h.cylLo = some 0x00 ∧
    controllerReply s 1 0x03 (if s.h.cylHi.getLsbD 7 then 0x11 else 0x01) = some 0x00 ∧
    (∀ k, k < 1 → (controllerReply s (2 + k) 0x80 0x00).any (fun v => v.getLsbD 6 = decide (k + 1 = 1))) ∧
    (∀ k, k < 1 → (controllerReply s (2 + 1 + k) 0x81 0x00).any (fun v => v.getLsbD 0 = decide (k + 1 = 1))) ∧
    controllerReply s (2 + 1 + 1) 0x01 s.h.head = some 0x00 ∧
    controllerReply s (2 + 1 + 1 + 1) 0x02 s.h.sector = some 0x00 ∧
    controllerReply s (2 + 1 + 1 + 2) 0x03 0x04 = some 0x00 ∧
    (∀ k, k < 1 → (controllerReply s (2 + 1 + 1 + 3 + k) 0x81 0x00).any (fun v => v.getLsbD 7 = !decide (k + 1 = 1))) := by
  decide

theorem witness_SeekSucceedsOnTickAB :
    let s := withEvents (.host 0x00 0x40 :: (List.replicate (2 + 1 + 1) .tick ++ [])) [0x00, 0x00, 0x00, 0x40, 0x01]
    s.busy = false ∧ 2 ≤ (effectiveBudget (s.h.t1Hi ++ s.h.t1Lo)).toNat ∧
    1 ≤ (effectiveBudget (s.h.t2Hi ++ s.h.t2Lo)).toNat ∧
    s.events = .host 0x00 0x40 :: (List.replicate (2 + 1 + 1) .tick ++ []) ∧
    controllerReply s 0 0x00 s.h.cylLo = some 0x00 ∧
    controllerReply s 1 0x03 (if s.h.cylHi.getLsbD 7 then 0x11 else 0x01) = some 0x00 ∧
    (∀ k, k < 2 → (controllerReply s (2 + k) 0x80 0x00).any (fun v => v.getLsbD 6 = decide (k + 1 = 2))) ∧
    (∀ k, k < 1 → (controllerReply s (2 + 2 + k) 0x81 0x00).any (fun v => v.getLsbD 0 = decide (k + 1 = 1))) := by decide

theorem witness_AbortIssuesCommandClear :
    ∀ st ∈ [St.seekIssued, .addrAccepted, .commandIssued],
      let s := busyEvents [.tick] st .write 1 0 [0x80, 0x00]
      (nextOf (step s)).map (·.st) = some .aborted ∧ s.st ≠ .aborted := by decide

theorem witness_GeneratorsChangeOnlyByTheirCommands :
    (∃ t, step (withEvents [.host 0x00 0x10] []) = .next t ∧ t.l16 ≠ base.l16) ∧
    (∃ t, step { withEvents [.host 0x00 0x39] [] with l31 := 0 } = .next t ∧ t.l31 ≠ 0) ∧
    (∃ t, step (withEvents [.host 0x00 0x30] []) = .next t ∧ t.out ≠ base.out) :=
  ⟨next_of (by decide +kernel), next_of (by decide +kernel), next_of (by decide +kernel)⟩

theorem witness_LatchesAndReplyRegistersChangeOnlyByTheirEvents :
    (∃ t, step (withEvents [.host 0x00 0x42] [0x00, 0x00]) = .next t ∧ t.x ≠ base.x) ∧
    (∃ t, step (withEvents [.host 0x00 0x60] [0x4C]) = .next t ∧ t.devPrev ≠ base.devPrev) ∧
    (∃ t, step (withEvents [.host 0x00 0x50] [0x0C, 0x01]) = .next t ∧ t.lastS1 ≠ base.lastS1 ∧ t.lastS2 ≠ base.lastS2) ∧
    (∃ t, step (busyEvents [.tick] .seekIssued .seek 2 0 [0x20]) = .next t ∧ t.lastS1 ≠ base.lastS1) ∧
    (∃ t, step (busyEvents [.tick] .commandIssued .read 2 0 [0x40]) = .next t ∧ t.lastS2 ≠ base.lastS2) :=
  ⟨next_of (by decide), next_of (by decide), next_of (by decide), next_of (by decide), next_of (by decide)⟩

theorem witness_OnlyResetCancelsATransaction :
    (busyAt .seekIssued .seek 10 0 []).busy = true ∧ (busyAt .commandIssued .write 10 0 []).busy = true ∧
    ¬ ((0x00 : Byte) = 0x00 ∧ (0xFE : Byte) = 0xFF) ∧ ¬ ((0xFF : Byte) = 0x00 ∧ (0xFF : Byte) = 0xFF) := by decide

theorem witness_TickReadsNoHostRegister :
    ∃ t, tick (busyAt .driveReady .write 1 0 [0x00, 0x00, 0x00]) = .next t ∧ t.st = .commandIssued := next_of (by decide)

theorem witness_BystandersDoNotDisturbTheHandshake :
    let es : List Event := [.host 0x00 0x10, .tick, .host 0x01 0x64, .host 0x00 0x34, .tick, .host 0x8C 0x00]
    (∀ e ∈ es, e.bystander = true) ∧
    ∃ t, runEvents es (busyAt .seekIssued .seek 3 0 [0x00, 0x40]) = .next t ∧ t.st = .addrAccepted :=
  ⟨by decide, next_of (by decide +kernel)⟩

theorem witness_DeviceTransactionsAreAppendedInOrder :
    ∃ t, step (busyEvents [.tick] .driveReady .read 1 0 [0x01, 0x02, 0x03]) = .next t ∧
      t.devLog = [⟨0x01, 0x01, 0x01⟩, ⟨0x02, 0x07, 0x02⟩, ⟨0x03, 0x02, 0x03⟩] := next_of (by decide)

theorem witness_OwnSequencesUseOnlyTheSixRegisters :
    ∃ t, step (busyEvents [.tick] .seekIssued .read 1 0 [0x00, 0x00]) = .next t ∧
      t.devLog = [] ++ [⟨0x80, 0x00, 0x00⟩, ⟨0x03, 0x08, 0x00⟩] := next_of (by decide)

theorem witness_OnlyASilentControllerStopsAStep :
    (withEvents [.host 0x00 0x40] [0x00, 0x00]).ControllerAnswers ∧
    (let s := { busyAt .driveReady .read 1 0 [] with replies := [.silent] };
      s.replies = .silent :: [] ∧ s.st = .driveReady ∧ s.x.xop ≠ .seek) ∧
    (let s := { base with replies := [.silent] };
      s.replies = .silent :: [] ∧ s.busy = false) := by decide

theorem witness_OnlyASilentControllerStopsAStep_fault :
    step { withEvents [.host 0x00 0x50] [] with replies := [.answer 0x0C, .silent] } = .fault .controllerSilent := rfl

/-- The last completion poll of a WRITE whose command byte is the first device transaction of all. -/
def lastPoll : State := { busyAt .commandIssued .write 2 1 [0x40] with devLog := [⟨0x03, 0x04, 0x00⟩, ⟨0x81, 0x00, 0x80⟩] }

/-- The WRITE runs at the first poll and has ended at the second. -/
theorem lastPoll_keepsDuties :
    KeepsDuties [⟨0x03, 0x04, 0x00⟩, ⟨0x81, 0x00, 0x80⟩, ⟨0x81, 0x00, 0x40⟩]
      [⟨true, false, []⟩, ⟨true, false, []⟩, ⟨true, false, [0]⟩] := by
  refine ⟨rfl, ?_, ?_, ?_, ?_⟩
  · rintro (_ | _ | _ | k) e f he hf hr hl <;> cases he <;> cases hf <;> exact absurd hr (by decide)
  · rintro (_ | _ | _ | k) e f he hf hr hl <;> cases he <;> cases hf <;> exact absurd hl (by decide)
  · rintro (_ | _ | _ | i) k c e f hi hc w he hf hr hn <;> cases hc <;> exact absurd w.2 (by decide)
  · rintro (_ | _ | _ | i) (_ | _ | _ | k) c e f hi hc w he hf hr hn <;> cases hc <;> cases he <;> cases hf <;>
      first | decide | exact absurd hi (by decide) | exact absurd hn (by decide) | exact absurd w.2 (by decide)

theorem witness_DoneOnlyAfterTheOperationEnded :
    lastPoll.Inv ∧ lastPoll.st = .commandIssued ∧
    ∃ t, tick lastPoll = .next t ∧ t.st = .done ∧
      t.devLog = [⟨0x03, 0x04, 0x00⟩, ⟨0x81, 0x00, 0x80⟩, ⟨0x81, 0x00, 0x40⟩] :=
  ⟨by decide, rfl, next_of (by decide)⟩

/-- A controller that starts late, its flag still 0 at the first poll after the command byte, breaks duty (d). -/
theorem test_keepsDuties_late_start (f g : DriveView) (h : g.ended = []) :
    ¬ KeepsDuties [⟨0x03, 0x02, 0x00⟩, ⟨0x81, 0x00, 0x00⟩] [f, g] := fun k =>
  absurd (k.readInProgress 0 1 ⟨0x03, 0x02, 0x00⟩ ⟨0x81, 0x00, 0x00⟩ g (by decide) rfl ⟨rfl, rfl⟩ rfl rfl rfl (by simp [h]))
    (by decide)

end Sys2Proof.Tests
end

section
/-! The host port (20_memory.md): the exchanges, the reads, the reserved numbers and the byte order. -/

namespace Sys2Proof.Machine

/-! The stored command and the byte a CMD write returns (R53). -/

/-- Whatever a command does, its transaction returns the previous code. -/
theorem CmdNext.hostRets {d : Byte} {s t : State} (n : CmdNext d s t) : t.hostRets = s.hostRets ++ [s.h.cmd] := by
  cases n <;> subst t <;> rfl

/-- No command but SRST changes a writable register beyond the store of its own code. -/
theorem CmdNext.h_of_ne_srst {d : Byte} {s t : State} (n : CmdNext d s t) (hd : d ≠ 0xFF) :
    t.h = { s.h with cmd := d } := by
  cases n
  case srst c _ => exact absurd c hd
  all_goals subst t; rfl

theorem exec_decodeCmd_srst (s : State) : exec (decodeCmd 0xFF) s = .next (resetState (storeCmd 0xFF s)) := rfl

/-- The code that CMD holds after a CMD write that completes: SRST resets CMD (43_control.md R142). -/
theorem cmd_of_exec_decodeCmd {d : Byte} {s t : State} (h : exec (decodeCmd d) s = .next t) :
    t.h.cmd = if d = 0xFF then 0x00 else d := by
  by_cases hd : d = 0xFF
  · subst hd
    rw [exec_decodeCmd_srst] at h
    cases h
    rfl
  · rw [if_neg hd, (cmdNext_of_exec h).h_of_ne_srst hd]

/-- Settles O19: each exchange is the one of its register name, and a CMD write is one of the cases of `CmdNext`. -/
theorem writableRegistersExchange : Obligations.WritableRegistersExchange := by
  intro v s ret
  have store (reg : HReg) (n : reg ≠ .cmd) := exec_decodeExchange n v s
  have number (reg : HReg) := decodeXact_number reg v
  refine ⟨store .cylLo nofun, store .cylHi nofun, store .head nofun, store .sector nofun, store .t1Lo nofun,
    store .t1Hi nofun, store .t2Lo nofun, store .t2Hi nofun, store .t3Lo nofun, store .t3Hi nofun,
    store .seed16Lo nofun, store .seed16Hi nofun, store .seed31B0 nofun, store .seed31B1 nofun,
    store .seed31B2 nofun, store .seed31B3 nofun, store .devReg nofun, store .devData nofun,
    number .cylLo, number .cylHi, number .head, number .sector, number .t1Lo, number .t1Hi, number .t2Lo,
    number .t2Hi, number .t3Lo, number .t3Hi, number .seed16Lo, number .seed16Hi, number .seed31B0,
    number .seed31B1, number .seed31B2, number .seed31B3, number .devReg, number .devData, decodeXact_cmd v, ?_⟩
  intro t h
  rw [decodeXact_cmd] at h
  exact ⟨(cmdNext_of_exec h).hostRets, cmd_of_exec_decodeCmd h⟩

/-! The reads (R54) and the reserved numbers (R55). -/

/-- The two reserved ranges of the read-only half hold 0x00. -/
theorem State.readRO_reserved (s : State) {r : Byte} (h : (0x8E ≤ r ∧ r ≤ 0xBF) ∨ 0xD3 ≤ r) : s.readRO r = 0x00 := by
  have ne (k : Byte) (hk : k < 0x8E) : r ≠ k := by bv_omega
  simp (disch := decide) only [State.readRO, ne, if_false]
  by_cases hr : r < 0xC0
  · rw [if_pos hr]
  · have unnamed : HReg.ofNumber? (r - 0xC0) = none := by
      have hr : 0xD3 ≤ r := by bv_omega
      clear h ne
      revert r
      decide
    rw [if_neg hr, unnamed]

/-- The readback of a writable register, 0xC0 above its number. -/
theorem State.readRO_readback (s : State) (reg : HReg) : s.readRO (0xC0 + reg.number) = s.h.get reg := by
  cases reg <;> rfl

theorem exec_rd (r x : Byte) (s : State) : exec (.rd r x) s = .next (hostReturn (s.readRO r) s) := rfl

theorem exec_rd_of_readRO {s : State} {r p : Byte} (x : Byte) (h : s.readRO r = p) :
    exec (.rd r x) s = .next (hostReturn p s) := by
  rw [exec_rd, h]

/-- Settles O20: each clause is what `ReadRO` holds at its number. -/
theorem readOnlyRegistersRead : Obligations.ReadOnlyRegistersRead := by
  intro x s ret
  have back (reg : HReg) : exec (.rd (0xC0 + reg.number) x) s = ret (s.h.get reg) :=
    exec_rd_of_readRO x (s.readRO_readback reg)
  have read (r : Byte) := exec_rd r x s
  refine ⟨read 0x80, read 0x81, read 0x82, read 0x83, read 0x84, read 0x85, read 0x86, read 0x87, read 0x88, read 0x89,
    read 0x8A, read 0x8B, read 0x8C, read 0x8D, ?_, back, fun r h => exec_rd_of_readRO x (s.readRO_reserved h)⟩
  simp only [List.forall_mem_cons]
  exact ⟨back .cmd, back .cylLo, back .cylHi, back .head, back .sector, back .t1Lo, back .t1Hi, back .t2Lo, back .t2Hi,
    back .t3Lo, back .t3Hi, back .seed16Lo, back .seed16Hi, back .seed31B0, back .seed31B1, back .seed31B2,
    back .seed31B3, back .devReg, back .devData, nofun⟩

theorem decodeXact_reservedWritable {r : Byte} (h : 0x13 ≤ r ∧ r ≤ 0x7F) (d : Byte) :
    decodeXact r d = .wrReserved r d := by
  have unnamed : r < Config.hostRoThreshold ∧ HReg.ofNumber? r = none := by
    revert r
    decide
  rw [decodeXact, if_pos unnamed.1, unnamed.2]

theorem decodeXact_readOnly {r : Byte} (h : 0x80 ≤ r) (d : Byte) : decodeXact r d = .rd r d :=
  if_neg (BitVec.not_lt.mpr h)

/-- Settles O21: a reserved writable number by its decoding, a reserved read-only one as a read of 0x00. -/
theorem reservedNumbersHaveNoEffect : Obligations.ReservedNumbersHaveNoEffect := by
  rintro r d s (h | h)
  · rw [decodeXact_reservedWritable h]
    exact ⟨rfl, fun _ => rfl⟩
  · have hr : 0x80 ≤ r := by bv_omega
    refine ⟨?_, fun hr' => absurd hr' (by bv_omega)⟩
    rw [decodeXact_readOnly hr]
    exact exec_rd_of_readRO d (s.readRO_reserved h)

/-! The byte order (R56). -/

@[simp] theorem State.hostReg_number (s : State) (reg : HReg) : s.hostReg reg.number = s.h.get reg := by
  cases reg <;> rfl

/-- A 31-bit value cut into its bytes, the last of 7 bits. -/
theorem gen31_bytes (x : Gen31) :
    x.extractLsb' 24 7 ++ x.extractLsb' 16 8 ++ x.extractLsb' 8 8 ++ x.extractLsb' 0 8 = x := by
  rw [BitVec.extractLsb'_append_extractLsb'_eq_extractLsb' (start₁ := 16) (len₁ := 8) rfl,
    BitVec.extractLsb'_append_extractLsb'_eq_extractLsb' (start₁ := 8) (len₁ := 8) rfl,
    BitVec.extractLsb'_append_extractLsb'_eq_extractLsb' (start₁ := 0) (len₁ := 8) rfl]
  exact BitVec.extractLsb'_eq_self

/-- Four bytes of which the last has 7 bits, read as a 32-bit value: bit 31 is 0. -/
theorem zeroExtend_bytes (a : BitVec 7) (b c d : Byte) :
    (a ++ b ++ c ++ d).zeroExtend 32 = (0#1 ++ a) ++ b ++ c ++ d := by
  have top : a.setWidth 8 = 0#1 ++ a := BitVec.setWidth_eq_append (by decide)
  calc (a ++ b ++ c ++ d).setWidth 32
      = (a ++ b ++ c).setWidth 24 ++ d := by rw [BitVec.setWidth_append, dif_neg (by decide)]; rfl
    _ = (a ++ b).setWidth 16 ++ c ++ d := by rw [BitVec.setWidth_append, dif_neg (by decide)]; rfl
    _ = a.setWidth 8 ++ b ++ c ++ d := by rw [BitVec.setWidth_append, dif_neg (by decide)]; rfl
    _ = (0#1 ++ a) ++ b ++ c ++ d := by rw [top]

theorem and_0x7F (b : Byte) : b &&& 0x7F = 0#1 ++ b.extractLsb' 0 7 := by
  revert b
  decide

theorem HostRegs.seed31_zeroExtend (h : HostRegs) :
    h.seed31.zeroExtend 32 = (h.seed31B3 &&& 0x7F) ++ h.seed31B2 ++ h.seed31B1 ++ h.seed31B0 := by
  rw [and_0x7F]
  exact zeroExtend_bytes _ _ _ _

theorem gen31_zeroExtend (x : Gen31) :
    x.zeroExtend 32 = (0#1 ++ x.extractLsb' 24 7) ++ x.extractLsb' 16 8 ++ x.extractLsb' 8 8 ++ x.extractLsb' 0 8 := by
  rw [← zeroExtend_bytes, gen31_bytes]

/-- Settles O23: the operands are the staging bytes in register order, the read-only fields their own bytes. -/
theorem multiByteFieldsAreLittleEndian : Obligations.MultiByteFieldsAreLittleEndian := fun s =>
  ⟨rfl, rfl, rfl, rfl, s.h.seed31_zeroExtend, (hostWord_halves s.l16).symm, gen31_zeroExtend s.l31,
    (hostWord_halves s.wcnt).symm⟩

end Sys2Proof.Machine
end

section
/-! The command map (30_encoding.md R72, R73): the rows with an advance count, and the codes that no row lists. -/

namespace Sys2Proof

theorem codeGroup_append (g f : BitVec 4) : codeGroup (g ++ f) = g :=
  BitVec.extractLsb'_append_eq_left

theorem codeCount_append (g f : BitVec 4) : codeCount (g ++ f) = f.zeroExtend 5 + 1 := by
  rw [codeCount, BitVec.extractLsb'_append_eq_right]

theorem ne_zero_of_codeGroup_ne_zero {d : Byte} (h : codeGroup d ≠ 0x0) : d ≠ 0x00 := by
  rintro rfl
  exact h rfl

theorem decodeCmd_group1 {d : Byte} (h : codeGroup d = 0x1) : decodeCmd d = .adv16 (codeCount d) := by
  have nz : d ≠ 0x00 := ne_zero_of_codeGroup_ne_zero (by simp [h])
  rw [decodeCmd, if_neg nz, if_pos h]

theorem decodeCmd_group2 {d : Byte} (h : codeGroup d = 0x2) : decodeCmd d = .adv31 (codeCount d) := by
  have nz : d ≠ 0x00 := ne_zero_of_codeGroup_ne_zero (by simp [h])
  have n1 : codeGroup d ≠ 0x1 := by simp [h]
  rw [decodeCmd, if_neg nz, if_neg n1, if_pos h]

theorem decodeCmd_advance16 (f : BitVec 4) : decodeCmd (0x1#4 ++ f) = .adv16 (f.zeroExtend 5 + 1) :=
  (decodeCmd_group1 (codeGroup_append 0x1 f)).trans (congrArg Instr.adv16 (codeCount_append 0x1 f))

theorem decodeCmd_advance31 (f : BitVec 4) : decodeCmd (0x2#4 ++ f) = .adv31 (f.zeroExtend 5 + 1) :=
  (decodeCmd_group2 (codeGroup_append 0x2 f)).trans (congrArg Instr.adv31 (codeCount_append 0x2 f))

theorem reservedCode_advanceCode (n : BitVec 5) :
    reservedCode (advanceCode 0x1 n) ≠ true ∧ reservedCode (advanceCode 0x2 n) ≠ true := by
  revert n
  decide

/-- A reserved code has no row of the command map: of the cases of `cmdCase` only the last is left. -/
theorem decodeCmd_of_reservedCode {d : Byte} (h : reservedCode d = true) : decodeCmd d = .reservedCmd d := by
  cases cmdCase d
  case reserved i => exact i
  all_goals subst d
  case adv16 n _ _ => exact absurd h (reservedCode_advanceCode n).1
  case adv31 n _ _ => exact absurd h (reservedCode_advanceCode n).2
  all_goals exact absurd h (by decide)

end Sys2Proof

namespace Sys2Proof.Machine

/-- Settles O3: a single code by evaluating its row, an advance by its group and count, every other code as one that
`cmdCase` leaves to no row. -/
theorem commandCodesDecodeAsTheMapSays : Obligations.CommandCodesDecodeAsTheMapSays :=
  ⟨rfl, decodeCmd_advance16, decodeCmd_advance31, rfl, rfl, rfl, rfl, rfl, rfl, rfl, rfl, rfl, rfl, rfl, rfl, rfl,
    fun _ notGroup1 notGroup2 notListed => decodeCmd_of_reservedCode (reservedCode_of_ne notGroup1 notGroup2 notListed)⟩

end Sys2Proof.Machine
end

section
/-! The LFSR generators and their commands (40_lfsr.md). -/

namespace Sys2Proof.Machine

/-! One bit position (R80, R81). -/

/-- A function on words that moves every bit down by one position and lets a new bit in at the top. -/
def ShiftsRight (f : BitVec w → BitVec w) : Prop :=
  ∀ (s : BitVec w) (i : Nat), i + 1 < w → (f s).getLsbD i = s.getLsbD (i + 1)

theorem getLsbD_cons_extractLsb'_one (b : Bool) (s : BitVec (w + 1)) {i : Nat} (h : i < w) :
    (BitVec.cons b (s.extractLsb' 1 w)).getLsbD i = s.getLsbD (i + 1) := by
  rw [BitVec.getLsbD_cons, if_neg h.ne, BitVec.getLsbD_extractLsb', decide_eq_true h, Bool.true_and,
    Nat.add_comm 1 i]

theorem step16_shiftsRight : ShiftsRight step16 := fun s _ h =>
  getLsbD_cons_extractLsb'_one (w := 15) _ s (Nat.lt_of_succ_lt_succ h)

theorem step31_shiftsRight : ShiftsRight step31 := fun s _ h =>
  getLsbD_cons_extractLsb'_one (w := 30) _ s (Nat.lt_of_succ_lt_succ h)

/-- The feedback bit of R80 enters bit 15. -/
theorem step16_getLsbD_top (s : Gen16) : (step16 s).getLsbD 15 = !parity s Config.taps16 := by
  rw [step16, BitVec.getLsbD_cons, if_pos rfl]

/-- The feedback bit of R81 enters bit 30. -/
theorem step31_getLsbD_top (s : Gen31) : (step31 s).getLsbD 30 = !parity s Config.taps31 := by
  rw [step31, BitVec.getLsbD_cons, if_pos rfl]

/-- A parity begins with its first tap: the `false` that the fold starts from adds nothing. -/
theorem parity_cons (v : BitVec w) (i : Nat) (taps : List Nat) :
    parity v (i :: taps) = taps.foldl (fun b j => b ^^ v.getLsbD j) (v.getLsbD i) := by
  rw [parity, List.foldl_cons, Bool.false_xor]

/-- Settles O7: the bit that enters at the top, and the shift of the others. -/
theorem step16ShiftsInInvertedParity : Obligations.Step16ShiftsInInvertedParity := fun s =>
  ⟨(step16_getLsbD_top s).trans (congrArg not (parity_cons s 0 [2, 3, 5])),
    fun i h => step16_shiftsRight s i (Nat.succ_lt_succ h)⟩

/-- Settles O8: the bit that enters at the top, and the shift of the others. -/
theorem step31ShiftsInInvertedParity : Obligations.Step31ShiftsInInvertedParity := fun s =>
  ⟨(step31_getLsbD_top s).trans (congrArg not (parity_cons s 0 [3, 7, 11, 15, 19, 23, 27])),
    fun i h => step31_shiftsRight s i (Nat.succ_lt_succ h)⟩

/-! Several bit positions: what is shifted down is not changed, and all ones stay. -/

/-- After `k` positions a bit is the one that stood `k` places higher, as long as there was one. -/
theorem ShiftsRight.getLsbD_iterate {f : BitVec w → BitVec w} (hf : ShiftsRight f) (k : Nat) (s : BitVec w) {i : Nat}
    (h : i + k < w) : (f^[k] s).getLsbD i = s.getLsbD (i + k) := by
  induction k generalizing s with
  | zero => rfl
  | succ k ih =>
    rw [Function.iterate_succ_apply, ih (f s) (by omega), hf s (i + k) h]
    rfl

/-- After `k` positions the low byte is the byte that stood at bit `k` (the corner cases of R86, R88 and R89). -/
theorem ShiftsRight.lowByte_iterate {f : BitVec w → BitVec w} (hf : ShiftsRight f) {k : Nat} (h : k + 8 ≤ w)
    (s : BitVec w) : (f^[k] s).extractLsb' 0 8 = s.extractLsb' k 8 := by
  apply BitVec.eq_of_getLsbD_eq
  intro i hi
  rw [BitVec.getLsbD_extractLsb', BitVec.getLsbD_extractLsb', Nat.zero_add, hf.getLsbD_iterate k s (by omega),
    Nat.add_comm i]

/-- After 16 positions LFSR16 holds the 16 feedback bits, the first one at bit 0 (R87). -/
theorem step16_iterate_16_getLsbD (s : Gen16) {j : Nat} (h : j < 16) :
    (step16^[16] s).getLsbD j = !parity (step16^[j] s) Config.taps16 := by
  have total : 16 = (15 - j) + (j + 1) := by omega
  have top : j + (15 - j) = 15 := by omega
  calc (step16^[16] s).getLsbD j
      = (step16^[15 - j] (step16^[j + 1] s)).getLsbD j := by rw [← Function.iterate_add_apply, ← total]
    _ = (step16 (step16^[j] s)).getLsbD 15 := by
        rw [step16_shiftsRight.getLsbD_iterate _ _ (by omega), top, Function.iterate_succ_apply']
    _ = !parity (step16^[j] s) Config.taps16 := step16_getLsbD_top _

theorem step16_iterate_allOnes (k : Nat) : step16^[k] 0xFFFF = 0xFFFF := Function.iterate_fixed (by decide) k

theorem step31_iterate_allOnes (k : Nat) : step31^[k] 0x7FFFFFFF = 0x7FFFFFFF := Function.iterate_fixed (by decide) k

/-! The commands (R84 to R89, R92, R93). -/

/-- The low nibble of an advance code is the count less one: for the counts of R73 that loses nothing. -/
theorem advanceCode_eq_or {n : BitVec 5} (h1 : 1 ≤ n) (h16 : n ≤ 16) :
    advanceCode 0x1 n = 0x10 ||| (n - 1).zeroExtend 8 ∧ advanceCode 0x2 n = 0x20 ||| (n - 1).zeroExtend 8 := by
  revert n
  decide

theorem cmdWord_eq_zeroExtend (d : Byte) : cmdWord d = d.zeroExtend 16 := by
  have grow : d.setWidth 16 = 0#8 ++ d := BitVec.setWidth_eq_append (by decide)
  exact grow.symm

theorem cmdWord_or_zeroExtend (c : Byte) (m : BitVec 5) :
    cmdWord (c ||| m.zeroExtend 8) = cmdWord c ||| m.zeroExtend 16 := by
  have grow : (m.setWidth 8).setWidth 16 = m.setWidth 16 := BitVec.setWidth_setWidth (by decide)
  rw [cmdWord_eq_zeroExtend, cmdWord_eq_zeroExtend]
  exact BitVec.setWidth_or.trans (congrArg _ grow)

/-- Settles O13: the meanings store the advance code, which is the group and the count less one. -/
theorem advanceCommandsMoveTheirGenerator : Obligations.AdvanceCommandsMoveTheirGenerator := by
  intro n s h1 h16
  obtain ⟨code16, code31⟩ := advanceCode_eq_or h1 h16
  rw [← code16, ← code31]
  refine ⟨?_, rfl, ?_, rfl, step16_iterate_allOnes _, step31_iterate_allOnes _⟩
  · exact (congrArg cmdWord code16).trans (cmdWord_or_zeroExtend _ _)
  · exact (congrArg cmdWord code31).trans (cmdWord_or_zeroExtend _ _)

/-- Settles O14: OUT is the low byte after the advance, which for all but BYTE16_16 is an old byte shifted down. -/
theorem byteCommandsOutputTheLowByte : Obligations.ByteCommandsOutputTheLowByte := by
  intro s
  have low16 : (step16^[8] s.l16).extractLsb' 0 8 = s.l16.extractLsb' 8 8 :=
    step16_shiftsRight.lowByte_iterate (by decide) s.l16
  have low31 : (step31^[8] s.l31).extractLsb' 0 8 = s.l31.extractLsb' 8 8 :=
    step31_shiftsRight.lowByte_iterate (by decide) s.l31
  have mid31 : (step31^[16] s.l31).extractLsb' 0 8 = s.l31.extractLsb' 16 8 :=
    step31_shiftsRight.lowByte_iterate (by decide) s.l31
  rw [← low16, ← low31, ← mid31]
  exact ⟨rfl, rfl, fun _ => step16_iterate_16_getLsbD s.l16, rfl, rfl, rfl, rfl, rfl,
    step16_iterate_allOnes 8, step16_iterate_allOnes 16, step31_iterate_allOnes 8, step31_iterate_allOnes 16,
    rfl, rfl, rfl, rfl⟩

/-- Settles O15: each command loads its staging value, and all ones are the state that no step leaves. -/
theorem seedCommandsLoadTheStagingValue : Obligations.SeedCommandsLoadTheStagingValue := fun _ =>
  ⟨rfl, rfl, step16_iterate_allOnes, step31_iterate_allOnes, by decide, rfl, rfl⟩

/-! The independence of the generators (R90). -/

theorem eq_of_count16 {i : Instr} (h : (count16 i).isSome = true) :
    (∃ n, i = .adv16 n) ∨ i = .byte16_8 ∨ i = .byte16_16 := by
  unfold count16 at h
  split at h
  · exact .inl ⟨_, rfl⟩
  · exact .inr (.inl rfl)
  · exact .inr (.inr rfl)
  · cases h

theorem eq_of_count31 {i : Instr} (h : (count31 i).isSome = true) :
    (∃ n, i = .adv31 n) ∨ i = .byte31_8 ∨ i = .byte31_16 := by
  unfold count31 at h
  split at h
  · exact .inl ⟨_, rfl⟩
  · exact .inr (.inl rfl)
  · exact .inr (.inr rfl)
  · cases h

/-- Settles O17: the meaning of each of the eight commands updates its own generator, or that and OUT, and reads that
generator alone, or the staging bytes. -/
theorem lfsrCommandsAreIndependent : Obligations.LfsrCommandsAreIndependent := by
  intro i s u frame
  refine ⟨fun h => ?_, fun h => ?_, ?_, ?_⟩
  · obtain ⟨n, rfl⟩ | rfl | rfl := eq_of_count16 h
    · exact ⟨_, _, rfl, rfl, rfl, rfl, by rw [if_neg nofun]; rfl⟩
    · exact ⟨_, _, rfl, rfl, rfl, rfl, by rw [if_pos (.inl rfl)]; rfl⟩
    · exact ⟨_, _, rfl, rfl, rfl, rfl, by rw [if_pos (.inr rfl)]; rfl⟩
  · obtain ⟨n, rfl⟩ | rfl | rfl := eq_of_count31 h
    · exact ⟨_, _, rfl, rfl, rfl, rfl, by rw [if_neg nofun]; rfl⟩
    · exact ⟨_, _, rfl, rfl, rfl, rfl, by rw [if_pos (.inl rfl)]; rfl⟩
    · exact ⟨_, _, rfl, rfl, rfl, rfl, by rw [if_pos (.inr rfl)]; rfl⟩
  · rintro rfl
    exact ⟨_, _, rfl, rfl, rfl, rfl⟩
  · rintro rfl
    exact ⟨_, _, rfl, rfl, rfl, rfl⟩

end Sys2Proof.Machine
end

section
/-! The transaction commands, ACK and READYCHK (41_handshake.md R104, R105, R115, R116). -/

namespace Sys2Proof.Machine

/-! Device transactions in a row take as many listed replies, and append as many entries to the log. -/

theorem drop_two (rs : List Reply) : rs.drop 2 = rs.tail.tail := by
  rw [← List.tail_drop, List.drop_one]

theorem drop_three (rs : List Reply) : rs.drop 3 = rs.tail.tail.tail := by
  rw [← List.tail_drop, drop_two]

theorem append_pair (log : List DevXact) (a b : DevXact) : log ++ [a, b] = log ++ [a] ++ [b] :=
  List.append_cons log a [b]

theorem append_triple (log : List DevXact) (a b c : DevXact) : log ++ [a, b, c] = log ++ [a] ++ [b] ++ [c] := by
  rw [List.append_cons, append_pair]

/-! The start commands. -/

/-- `StartXfer` completes when the controller answers its two device transactions; `startXfer_eq_next` is the converse. -/
theorem startXfer_of_replies {op : XOp} {s : State} {p q : Byte}
    (hp : controllerReply s 0 Config.devCyl s.h.cylLo = some p)
    (hq : controllerReply s 1 Config.devCommand (seekByte s.h.restore) = some q) :
    startXfer op s = .next { recordXact Config.devCommand (seekByte s.h.restore) q
      (recordXact Config.devCyl s.h.cylLo p (latchStart op s)) with st := .seekIssued } :=
  devWrite_eq_next.mpr ⟨p, hp, devWrite_eq_next.mpr ⟨q, (controllerReply_recordXact ..).trans hq, rfl⟩⟩

/-- A budget of 0 acts as 1 (R103). -/
theorem effectiveBudget_eq (t : Word) : effectiveBudget t = if t = 0 then 1 else t :=
  if_congr (BitVec.lt_one_iff (by decide)) rfl rfl

theorem seekByte_eq (restore : Bool) : seekByte restore = if restore then 0x11 else 0x01 := by
  cases restore <;> rfl

theorem exec_start {i : Instr} {op : XOp} {code : Byte}
    (m : (i, op, code) ∈ [(Instr.xseek, XOp.seek, (0x40 : Byte)), (.xread, .read, 0x41), (.xwrite, .write, 0x42)])
    (s : State) : exec i s = whenNotBusy (storeCmd code s) (startXfer op) ∧ encode i = code.zeroExtend 16 := by
  simp only [List.mem_cons, List.not_mem_nil, or_false, Prod.mk.injEq] at m
  obtain ⟨rfl, rfl, rfl⟩ | ⟨rfl, rfl, rfl⟩ | ⟨rfl, rfl, rfl⟩ := m <;> exact ⟨rfl, rfl⟩

/-- Settles O32: `StartXfer` from the state with the code stored, its two device transactions answered. -/
theorem startCommandsLatchAndSeek : Obligations.StartCommandsLatchAndSeek := by
  intro i op code p q s m nb seek budget hp hq
  obtain ⟨run, word⟩ := exec_start m s
  have hseek : seekByte s.h.restore = seek := seekByte_eq _
  have hbudget : effectiveBudget = budget := funext effectiveBudget_eq
  refine ⟨word, ?_⟩
  rw [← hseek] at hq ⊢
  rw [run, whenNotBusy_of_not_busy (by exact nb), ← hbudget, drop_two, append_pair]
  exact startXfer_of_replies (s := storeCmd code s) hp hq

/-! The commands that need the engine idle. -/

/-- The commands that are refused while busy, each with its code (R105, R115, R116; 42_device_shim.md R134). -/
def idleCommands : List (Instr × Byte) :=
  [(.xseek, 0x40), (.xread, 0x41), (.xwrite, 0x42), (.ack, 0x48), (.readychk, 0x50), (.devx, 0x60)]

theorem exec_refused {i : Instr} {code : Byte} {s : State} (m : (i, code) ∈ idleCommands) (b : s.busy = true) :
    exec i s = .next (setErr .busy (storeCmd code s)) := by
  have refused := whenNotBusy_of_busy (s := storeCmd code s) b
  simp only [idleCommands, List.mem_cons, List.not_mem_nil, or_false, Prod.mk.injEq] at m
  obtain ⟨rfl, rfl⟩ | ⟨rfl, rfl⟩ | ⟨rfl, rfl⟩ | ⟨rfl, rfl⟩ | ⟨rfl, rfl⟩ | ⟨rfl, rfl⟩ := m <;> rw [exec]
  · rw [execXseek, refused]
  · rw [execXread, refused]
  · rw [execXwrite, refused]
  · rw [execAck, refused]
  · rw [execReadychk, refused]
  · rw [execDevx, refused]

/-- Settles O30: the refusal by `whenNotBusy`; an outcome is not busy, so that a start runs `StartXfer`. -/
theorem busyRefusesAndOutcomesAreReplaced : Obligations.BusyRefusesAndOutcomesAreReplaced := by
  refine ⟨fun _ _ _ m b => exec_refused m b, ?_⟩
  intro i s m outcome answers
  have nb : s.busy = false := by
    obtain h | h := outcome <;> rw [State.busy, h] <;> rfl
  obtain ⟨p, hp⟩ := controllerReply_of_answers answers 0 Config.devCyl s.h.cylLo
  obtain ⟨q, hq⟩ := controllerReply_of_answers answers 1 Config.devCommand (seekByte s.h.restore)
  have started (op : XOp) (code : Byte) :
      ∃ t, whenNotBusy (storeCmd code s) (startXfer op) = .next t ∧ t.st = .seekIssued ∧ t.reason = .none :=
    ⟨_, (whenNotBusy_of_not_busy (s := storeCmd code s) nb _).trans
      (startXfer_of_replies (s := storeCmd code s) hp hq), rfl, rfl⟩
  simp only [List.mem_cons, List.not_mem_nil, or_false] at m
  obtain rfl | rfl | rfl := m
  · exact started .seek 0x40
  · exact started .read 0x41
  · exact started .write 0x42

/-- Settles O40: `acknowledge` when not busy, else the refusal. -/
theorem ackClearsOutcomeAndStickyErrors : Obligations.AckClearsOutcomeAndStickyErrors := by
  refine ⟨rfl, fun s => ⟨fun nb => ?_, exec_refused (by decide)⟩⟩
  rw [exec, execAck, whenNotBusy_of_not_busy (by exact nb)]
  rfl

/-- Settles O41: the two status reads answered when not busy, else the refusal. -/
theorem readychkReportsTheFourBits : Obligations.ReadychkReportsTheFourBits := by
  refine ⟨rfl, fun s => ⟨fun nb v w hv hw => ?_, exec_refused (by decide)⟩⟩
  rw [exec, execReadychk, whenNotBusy_of_not_busy (by exact nb), drop_two, append_pair]
  refine devRead_eq_next.mpr ⟨v, hv, devRead_eq_next.mpr ⟨w, ?_, rfl⟩⟩
  exact (controllerReply_recordXact s 0 _ _ v 0x80 0x00).trans hw

end Sys2Proof.Machine
end

section
/-! The TICK (41_handshake.md R102, R106 to R109, R113). -/

namespace Sys2Proof.Machine

theorem tick_of_rests {s : State} (h : s.st = .idle ∨ s.st = .done ∨ s.st = .aborted) : tick s = .next s := by
  obtain h | h | h := h <;> rw [tick, h]

theorem tick_of_driveReady {s : State} (h : s.st = .driveReady) : tick s = issueCommand s := by
  rw [tick, h]

/-- Settles O35: a seek ends; a transfer makes its three device transactions, each answered. -/
theorem tickInDriveReadyIssuesTheCommand : Obligations.TickInDriveReadyIssuesTheCommand := by
  intro s h
  rw [tick_of_driveReady h]
  refine ⟨fun o => if_pos o, fun o p q u => ?_⟩
  intro c hp hq hu
  rw [issueCommand, if_neg o, drop_three, append_triple]
  refine devWrite_eq_next.mpr ⟨p, hp, devWrite_eq_next.mpr ⟨q, ?_, devWrite_eq_next.mpr ⟨u, ?_, rfl⟩⟩⟩
  · rw [controllerReply_recordXact]
    exact hq
  · rw [controllerReply_recordXact, controllerReply_recordXact]
    exact hu

/-! The state after a poll, beside the lemmas of Laws. -/

theorem St.pollReg_of_ne {st : St} (h : st ≠ .seekIssued) : st.pollReg = Config.devStatus2 := by
  cases st with
  | seekIssued => exact absurd rfl h
  | _ => rfl

theorem polled_of_seekIssued {s : State} (h : s.st = .seekIssued) (v : Byte) :
    polled v s = { recordXact Config.devStatus1 0x00 v s with lastS1 := v } := if_pos h

theorem polled_of_ne {s : State} (h : s.st ≠ .seekIssued) (v : Byte) :
    polled v s = { recordXact Config.devStatus2 0x00 v s with lastS2 := v } := if_neg h

@[simp] theorem polled_replies (v : Byte) (s : State) : (polled v s).replies = s.replies.tail := by
  unfold polled; split <;> rfl

@[simp] theorem polled_draws (v : Byte) (s : State) : (polled v s).draws = s.draws + 1 := by
  unfold polled; split <;> rfl

theorem polled_devLog (v : Byte) (s : State) : (polled v s).devLog = s.devLog ++ [⟨s.st.pollReg, 0x00, v⟩] := by
  by_cases h : s.st = .seekIssued
  · rw [polled_of_seekIssued h, h]
    rfl
  · rw [polled_of_ne h, St.pollReg_of_ne h]
    rfl

/-- The three outcomes of a TICK in the wait stage `st`, whose poll reads `v`: success, failed poll, timeout. -/
theorem tick_of_poll {s : State} {st : St} {v : Byte} (h : s.st = st) (w : st.waits = true)
    (r : controllerReply s 0 st.pollReg 0x00 = some v) :
    (s.x.awaited st v = true → tick s = .next (pollSucceeded (polled v s))) ∧
    (s.x.awaited st v = false → s.wcnt + 1 ≠ s.x.budget st → tick s = .next { polled v s with wcnt := s.wcnt + 1 }) ∧
    (s.x.awaited st v = false → s.wcnt + 1 = s.x.budget st → ∀ c, controllerReply s 1 0x03 0x08 = some c →
      tick s = .next { polled v s with
        wcnt := s.wcnt + 1, reason := st.timeoutReason, st := .aborted, replies := s.replies.drop 2,
        draws := s.draws + 2, devLog := s.devLog ++ [⟨st.pollReg, 0x00, v⟩, ⟨0x03, 0x08, c⟩] }) := by
  subst h
  rw [tick_of_waits w, devRead, devXact_of_reply r]
  refine ⟨fun a => if_pos a, fun a b => ?_, fun a b c hc => ?_⟩
  · rw [a, if_neg nofun]
    exact failedPoll_eq_next.mpr (.inl ⟨by rwa [polled_wcnt], by rw [polled_wcnt]⟩)
  · rw [a, if_neg nofun]
    refine failedPoll_eq_next.mpr (.inr ⟨by rwa [polled_wcnt], abort_eq_next.mpr ⟨c, ?_, ?_⟩⟩)
    · exact (controllerReply_polled v s 0 _ _).trans hc
    · rw [drop_two, append_pair, ← polled_replies v s, ← polled_devLog v s]
      simp only [recordXact, polled_draws, polled_wcnt]
      rfl

/-- Settles O33: the outcomes of the poll of Status1. -/
theorem tickInSeekIssuedPollsStatus1 : Obligations.TickInSeekIssuedPollsStatus1 := by
  intro s v h hv t
  have recorded : polled v s = t := polled_of_seekIssued h v
  have success : pollSucceeded t = { t with st := .addrAccepted, wcnt := 0 } := by
    rw [pollSucceeded, show t.st = .seekIssued from h]
  have outcomes := tick_of_poll h rfl hv
  rw [recorded, success] at outcomes
  exact outcomes

/-- Settles O34: the outcomes of the poll of Status2 for RWS Ready. -/
theorem tickInAddrAcceptedPollsReady : Obligations.TickInAddrAcceptedPollsReady := by
  intro s v h hv t
  have recorded : polled v s = t := polled_of_ne (by rw [h]; nofun) v
  have success : pollSucceeded t = { t with st := .driveReady } := by
    rw [pollSucceeded, show t.st = .addrAccepted from h]
  have outcomes := tick_of_poll h rfl hv
  rw [recorded, success] at outcomes
  exact outcomes

/-- Settles O36: the outcomes of the poll of Status2 for the completion flag, which is awaited clear. -/
theorem tickInCommandIssuedPollsCompletion : Obligations.TickInCommandIssuedPollsCompletion := by
  intro s v h _ hv running t
  have recorded : polled v s = t := polled_of_ne (by rw [h]; nofun) v
  have success : pollSucceeded t = { t with st := .done } := by
    rw [pollSucceeded, show t.st = .commandIssued from h]
  have awaited : s.x.awaited .commandIssued v = !running := rfl
  have outcomes := tick_of_poll h rfl hv
  rw [recorded, success, awaited, Bool.not_eq_true', Bool.not_eq_false'] at outcomes
  exact outcomes

/-! What a TICK leaves alone (R102). -/

/-- `t` is `s` but for the handshake state, its reason, the reply registers, the wait counter and the device port. -/
def EngineOnly (s t : State) : Prop :=
  t = { s with
    st := t.st, reason := t.reason, lastS1 := t.lastS1, lastS2 := t.lastS2, wcnt := t.wcnt, replies := t.replies,
    draws := t.draws, devLog := t.devLog }

theorem EngineOnly.trans {s t u : State} (h : EngineOnly s t) (k : EngineOnly t u) : EngineOnly s u := by
  unfold EngineOnly at *
  exact k.trans (by rw [h])

theorem engineOnly_polled (v : Byte) (s : State) : EngineOnly s (polled v s) := by
  unfold polled
  split <;> rfl

theorem engineOnly_pollSucceeded (s : State) : EngineOnly s (pollSucceeded s) := by
  unfold pollSucceeded
  split <;> rfl

theorem TickCase.engineOnly {s t : State} (n : TickCase s t) : EngineOnly s t := by
  cases n with
  | rests _ e => exact e ▸ rfl
  | succeeds v _ _ _ e => exact e ▸ (engineOnly_polled v s).trans (engineOnly_pollSucceeded _)
  | counts v _ _ _ _ e => exact e ▸ (engineOnly_polled v s).trans rfl
  | timesOut v p _ _ _ _ _ e => exact e ▸ (engineOnly_polled v s).trans rfl
  | seekEnds _ _ e => exact e ▸ rfl
  | issues p q u _ _ _ _ _ e => exact e ▸ rfl

/-- Settles O37: the dispatch by evaluating `Tick` in each state, the frame by the cases of a TICK. -/
theorem tickTouchesOnlyTheEngine : Obligations.TickTouchesOnlyTheEngine := fun _ =>
  ⟨fun h => by rw [tick, h], fun h => by rw [tick, h], tick_of_driveReady, fun h => by rw [tick, h], tick_of_rests,
    fun _ h => (tickCase_of_next h).engineOnly⟩

end Sys2Proof.Machine
end

section
/-! What a host transaction does to the handshake engine (41_handshake.md R100, R119; 43_control.md R143). -/

namespace Sys2Proof.Machine

/-- The command codes that can touch the handshake engine or the device port (43_control.md R143). -/
def engineCodes : List Byte := [0x40, 0x41, 0x42, 0x48, 0x50, 0x60, 0xFF]

theorem ne_srst_of_notMem_engineCodes {d : Byte} (c : d ∉ engineCodes) : d ≠ 0xFF := by
  rintro rfl
  exact c (by decide)

theorem advanceCode_notMem_engineCodes (n : BitVec 5) :
    advanceCode 0x1 n ∉ engineCodes ∧ advanceCode 0x2 n ∉ engineCodes := by
  revert n
  decide

theorem reservedCode_notMem_engineCodes {d : Byte} (h : reservedCode d = true) : d ∉ engineCodes := by
  revert d
  decide

theorem startOp_mem {d : Byte} {op : XOp} (h : startOp d = some op) : d ∈ ([0x40, 0x41, 0x42] : List Byte) := by
  unfold startOp at h
  split_ifs at h with seek read write
  · rw [seek]; decide
  · rw [read]; decide
  · rw [write]; decide

/-- What a CMD write of the code `d` that completes does to the handshake engine: `CmdNext` with the commands that treat the
engine alike taken together. -/
inductive CmdEngine (d : Byte) (s t : State) : Prop where
  | keeps (c : d ≠ 0xFF) (idle : s.busy = false → d ∉ engineCodes) (e : t.engine = s.engine)
  | starts (c : d ∈ ([0x40, 0x41, 0x42] : List Byte)) (b : s.busy = false) (st : t.st = .seekIssued)
      (reason : t.reason = .none)
  | acknowledges (c : d = 0x48) (b : s.busy = false) (st : t.st = .idle) (reason : t.reason = .none)
  | usesPort (c : d ∈ ([0x50, 0x60] : List Byte)) (b : s.busy = false) (st : t.st = s.st) (reason : t.reason = s.reason)
  | resets (c : d = 0xFF) (st : t.st = .idle) (reason : t.reason = .none)

theorem CmdNext.engine {d : Byte} {s t : State} (n : CmdNext d s t) : CmdEngine d s t := by
  have other (c : d ∉ engineCodes) (e : t.engine = s.engine) : CmdEngine d s t :=
    .keeps (ne_srst_of_notMem_engineCodes c) (fun _ => c) e
  cases n with
  | nop c e => exact other (by rw [c]; decide) (e ▸ rfl)
  | adv16 n c _ e => exact other (c ▸ (advanceCode_notMem_engineCodes n).1) (e ▸ rfl)
  | adv31 n c _ e => exact other (c ▸ (advanceCode_notMem_engineCodes n).2) (e ▸ rfl)
  | byte16 k c e => exact other (by obtain ⟨rfl, _⟩ | ⟨rfl, _⟩ := c <;> decide) (e ▸ rfl)
  | byte31 k c e => exact other (by obtain ⟨rfl, _⟩ | ⟨rfl, _⟩ := c <;> decide) (e ▸ rfl)
  | seed16 c e => exact other (by rw [c]; decide) (e ▸ rfl)
  | seed31 c e => exact other (by rw [c]; decide) (e ▸ rfl)
  | reserved c e => exact other (reservedCode_notMem_engineCodes c) (e ▸ rfl)
  | refused c b e =>
    have ne : d ≠ 0xFF := by
      rintro rfl
      exact absurd c (by decide)
    exact .keeps ne (fun idle => absurd (b.symm.trans idle) nofun) (e ▸ rfl)
  | start op p q c b _ _ e => exact .starts (startOp_mem c) b (e ▸ rfl) (e ▸ rfl)
  | ack c b e => exact .acknowledges c b (e ▸ rfl) (e ▸ rfl)
  | readychk v w c b _ _ e => exact .usesPort (by rw [c]; decide) b (e ▸ rfl) (e ▸ rfl)
  | devx p c b _ e => exact .usesPort (by rw [c]; decide) b (e ▸ rfl) (e ▸ rfl)
  | srst c e => exact .resets c (e ▸ rfl) (e ▸ rfl)

theorem number_ne_zero {reg : HReg} (n : reg ≠ .cmd) : reg.number ≠ 0x00 := by
  intro c
  have named : HReg.ofNumber? 0x00 = some reg := c ▸ reg.ofNumber?_number
  exact n (Option.some.inj named).symm

/-- Only a CMD write goes to register number 0x00. -/
theorem XactNext.cmdNext {d : Byte} {s t : State} (n : XactNext 0x00 d s t) : CmdNext d s t := by
  cases n with
  | cmd _ n => exact n
  | write reg n c _ => exact absurd c.symm (number_ne_zero n)
  | reserved c _ => exact absurd c (by decide)
  | read c _ => exact absurd c (by decide)

/-- No host transaction but a CMD write touches the engine. -/
theorem XactNext.engine_of_ne {r d : Byte} {s t : State} (n : XactNext r d s t) (hr : r ≠ 0x00) : t.engine = s.engine := by
  cases n with
  | cmd c _ => exact absurd c hr
  | write _ _ _ e => exact e ▸ rfl
  | reserved _ e => exact e ▸ rfl
  | read _ e => exact e ▸ rfl

/-! While busy (R119). -/

theorem exec_decodeCmd_of_busy {d : Byte} {s : State} (b : s.busy = true) (hd : d ≠ 0xFF) :
    ∃ t, exec (decodeCmd d) s = .next t ∧ t.engine = s.engine ∧ t.devPrev = s.devPrev ∧ t.events = s.events := by
  have refused (i : Instr) (code : Byte) (m : (i, code) ∈ idleCommands) :
      ∃ t, exec i s = .next t ∧ t.engine = s.engine ∧ t.devPrev = s.devPrev ∧ t.events = s.events :=
    ⟨_, exec_refused m b, rfl, rfl, rfl⟩
  cases cmdCase d with
  | srst c _ => exact absurd c hd
  | xseek _ i => exact i ▸ refused .xseek 0x40 (by decide)
  | xread _ i => exact i ▸ refused .xread 0x41 (by decide)
  | xwrite _ i => exact i ▸ refused .xwrite 0x42 (by decide)
  | ack _ i => exact i ▸ refused .ack 0x48 (by decide)
  | readychk _ i => exact i ▸ refused .readychk 0x50 (by decide)
  | devx _ i => exact i ▸ refused .devx 0x60 (by decide)
  | nop _ i | byte16_8 _ i | byte16_16 _ i | byte31_8 _ i | byte31_16 _ i | seed16 _ i | seed31 _ i | reserved _ i
  | adv16 _ _ _ i | adv31 _ _ _ i =>
    rw [i]
    exact ⟨_, rfl, rfl, rfl, rfl⟩

/-- Settles O53: by what a host transaction can be; while busy the commands of the engine are refused. -/
theorem onlyResetCancelsATransaction : Obligations.OnlyResetCancelsATransaction := by
  intro s b
  refine ⟨fun r d notReset => ?_, ⟨_, rfl, rfl, rfl⟩, ⟨_, rfl, rfl, rfl⟩⟩
  cases xactCase r d with
  | cmd e _ i =>
    rw [i]
    exact exec_decodeCmd_of_busy b (fun hd => notReset ⟨e, hd⟩)
  | write reg n _ i =>
    rw [i, exec_decodeExchange n]
    exact ⟨_, rfl, rfl, rfl, rfl⟩
  | reserved _ i | read _ i =>
    rw [i]
    exact ⟨_, rfl, rfl, rfl, rfl⟩

end Sys2Proof.Machine
end

section
/-! The transitions of the handshake (41_handshake.md R100), its outcomes (R114) and the entry to ABORTED (R113;
60_exceptions.md R151). -/

namespace Sys2Proof.Machine

/-! The table, row by row: a host transaction. -/

theorem phase_of_engine {s t : State} (h : t.engine = s.engine) : (t.st, t.reason) = (s.st, s.reason) :=
  congrArg (fun v : EngineView => (v.st, v.reason)) h

theorem CmdEngine.phase {d : Byte} {s t : State} (n : CmdEngine d s t) : (t.st, t.reason) =
    if d = 0xFF then (.idle, .none)
    else if s.busy = false ∧ (d = 0x40 ∨ d = 0x41 ∨ d = 0x42) then (.seekIssued, .none)
    else if s.busy = false ∧ d = 0x48 then (.idle, .none)
    else (s.st, s.reason) := by
  cases n with
  | keeps c idle e =>
    have start : ¬ (s.busy = false ∧ (d = 0x40 ∨ d = 0x41 ∨ d = 0x42)) := by
      rintro ⟨b, rfl | rfl | rfl⟩ <;> exact idle b (by decide)
    have ack : ¬ (s.busy = false ∧ d = 0x48) := by
      rintro ⟨b, rfl⟩
      exact idle b (by decide)
    rw [phase_of_engine e, if_neg c, if_neg start, if_neg ack]
  | starts c b st reason =>
    simp only [List.mem_cons, List.not_mem_nil, or_false] at c
    rw [st, reason, if_neg (by rintro rfl; revert c; decide), if_pos ⟨b, c⟩]
  | acknowledges c b st reason =>
    subst c
    rw [st, reason, if_neg (by decide), if_neg (fun h => absurd h.2 (by decide)), if_pos ⟨b, rfl⟩]
  | usesPort c b st reason =>
    rw [st, reason]
    simp only [List.mem_cons, List.not_mem_nil, or_false] at c
    obtain rfl | rfl := c <;> simp
  | resets c st reason => rw [st, reason, if_pos c]

/-! The table, row by row: a TICK. -/

/-- The status byte that a poll in the stage `st` has recorded. -/
def State.polledByte (s : State) (st : St) : Byte := if st = .seekIssued then s.lastS1 else s.lastS2

/-- Where the success of a wait stage leads. -/
def St.afterPoll : St → St
  | .seekIssued => .addrAccepted
  | .addrAccepted => .driveReady
  | _ => .done

theorem St.afterPoll_ne_aborted (st : St) : st.afterPoll ≠ .aborted := by
  cases st <;> nofun

@[simp] theorem pollSucceeded_st (s : State) : (pollSucceeded s).st = s.st.afterPoll := by
  unfold pollSucceeded St.afterPoll
  cases s.st <;> rfl

@[simp] theorem pollSucceeded_reason (s : State) : (pollSucceeded s).reason = s.reason := by
  unfold pollSucceeded
  cases s.st <;> rfl

@[simp] theorem pollSucceeded_polledByte (s : State) (st : St) : (pollSucceeded s).polledByte st = s.polledByte st := by
  unfold pollSucceeded
  cases s.st <;> rfl

@[simp] theorem polled_polledByte (v : Byte) (s : State) : (polled v s).polledByte s.st = v := by
  unfold polled State.polledByte
  split <;> rfl

theorem TickCase.phase_of_waits {s t : State} {st : St} (n : TickCase s t) (h : s.st = st) (w : st.waits = true) :
    (t.st, t.reason) =
      if s.x.awaited st (t.polledByte st) = true then (st.afterPoll, s.reason)
      else if s.wcnt + 1 = s.x.budget st then (.aborted, st.timeoutReason) else (st, s.reason) := by
  subst h
  cases n with
  | rests h _ => obtain h | h | h := h <;> rw [h] at w <;> cases w
  | succeeds v _ _ a e =>
    have byte : t.polledByte s.st = v := by rw [e, pollSucceeded_polledByte, polled_polledByte]
    rw [byte, if_pos a, e, pollSucceeded_st, pollSucceeded_reason, polled_st, polled_reason]
  | counts v _ _ a b e =>
    have byte : t.polledByte s.st = v := e ▸ polled_polledByte v s
    rw [byte, a, if_neg nofun, if_neg b, e, ← polled_st v s, ← polled_reason v s]
  | timesOut v p _ _ a b _ e =>
    have byte : t.polledByte s.st = v := e ▸ polled_polledByte v s
    rw [byte, a, if_neg nofun, if_pos b, e]
  | seekEnds h _ _ => rw [h] at w; cases w
  | issues _ _ _ h _ _ _ _ _ => rw [h] at w; cases w

theorem TickCase.phase_of_driveReady {s t : State} (n : TickCase s t) (h : s.st = .driveReady) :
    (t.st, t.reason) = (if s.x.xop = .seek then .done else .commandIssued, s.reason) := by
  cases n with
  | rests r _ => rw [h] at r; obtain r | r | r := r <;> cases r
  | succeeds _ w _ _ _ => rw [h] at w; cases w
  | counts _ w _ _ _ _ => rw [h] at w; cases w
  | timesOut _ _ w _ _ _ _ _ => rw [h] at w; cases w
  | seekEnds _ o e => rw [e, if_pos o]
  | issues _ _ _ _ o _ _ _ e => rw [e, if_neg o]; rfl

/-- A TICK in IDLE, DONE or ABORTED only takes its event. -/
theorem eq_of_tick_rests {s t : State} {es : List Event} (h : step s = .next t) (ev : s.events = .tick :: es)
    (r : s.st = .idle ∨ s.st = .done ∨ s.st = .aborted) : t = { s with events := es } := by
  rw [step_of_tick ev, tick_of_rests (by exact r)] at h
  exact (Host.Outcome.next.inj h).symm

/-- Settles O38: the rows of the table by the kind of the event, those of a TICK by the handshake state. -/
theorem handshakeTransitionsAreTheTable : Obligations.HandshakeTransitionsAreTheTable := by
  intro s t h
  cases stepCase_of_next h with
  | waits ev e =>
    rw [ev]
    exact ⟨fun _ => e ▸ rfl, nofun, nofun, nofun, nofun⟩
  | powerOn es ev e =>
    rw [ev]
    exact ⟨nofun, fun _ _ => e ▸ rfl, nofun, nofun, nofun⟩
  | host r d es ev n =>
    rw [ev]
    refine ⟨nofun, nofun, ?_, ?_, nofun⟩
    · rintro _ _ _ ⟨⟩ hr
      exact phase_of_engine (n.engine_of_ne hr)
    · rintro _ _ ⟨⟩
      exact n.cmdNext.engine.phase
  | tick es ev n =>
    have rest (r : s.st = .idle ∨ s.st = .done ∨ s.st = .aborted) : (t.st, t.reason) = (s.st, s.reason) := by
      rw [eq_of_tick_rests h ev r]
    rw [ev]
    refine ⟨nofun, nofun, nofun, nofun, ?_⟩
    rintro _ ⟨⟩
    cases st : s.st with
    | seekIssued => exact n.phase_of_waits st rfl
    | addrAccepted => exact n.phase_of_waits st rfl
    | driveReady => exact n.phase_of_driveReady st
    | commandIssued => exact (n.phase_of_waits st rfl).trans (if_congr (Bool.not_eq_true' _).to_iff rfl rfl)
    | idle => rw [rest (.inl st), st]
    | done => rw [rest (.inr (.inl st)), st]
    | aborted => rw [rest (.inr (.inr st)), st]

/-- Settles O39: of the steps from an outcome only a power-on reset and the commands named do not keep the engine. -/
theorem outcomesAreTerminal : Obligations.OutcomesAreTerminal := by
  intro s outcome
  refine ⟨tick_of_rests (.inr outcome), fun t h changed => ?_⟩
  have kept (e : t.engine = s.engine) : False := by
    obtain c | c | c := changed
    · exact c (congrArg EngineView.st e)
    · exact c (congrArg EngineView.reason e)
    · exact c (congrArg EngineView.devLog e)
  cases stepCase_of_next h with
  | waits _ e => exact (kept (e ▸ rfl)).elim
  | powerOn es ev _ => exact .inl ⟨es, ev⟩
  | tick es ev _ => exact (kept (eq_of_tick_rests h ev (.inr outcome) ▸ rfl)).elim
  | host r d es ev n =>
    by_cases hr : r = 0x00
    · subst hr
      refine .inr ⟨d, es, ev, ?_⟩
      cases n.cmdNext.engine with
      | keeps _ _ e => exact (kept e).elim
      | starts c _ _ _ => exact .inl (List.mem_append_left [0x48, 0xFF] c)
      | acknowledges c _ _ _ => exact .inl (by rw [c]; decide)
      | usesPort c _ st reason => exact .inr ⟨c, st, reason⟩
      | resets c _ _ => exact .inl (by rw [c]; decide)
    · exact (kept (n.engine_of_ne hr)).elim

/-! Entry to ABORTED. -/

/-- The state after a failed poll that read `v` and used up the budget, `p` answering the command-clear (R113). -/
def timedOut (v p : Byte) (s : State) : State :=
  { recordXact Config.devCommand Config.dcClear p { polled v s with wcnt := s.wcnt + 1 } with
    reason := s.st.timeoutReason, st := .aborted }

theorem timedOut_x (v p : Byte) (s : State) : (timedOut v p s).x = s.x := polled_x v s

theorem timedOut_h (v p : Byte) (s : State) : (timedOut v p s).h = s.h := polled_h v s

theorem timedOut_polledByte (v p : Byte) (s : State) : (timedOut v p s).polledByte s.st = v := polled_polledByte v s

theorem timedOut_devLog (v p : Byte) (s : State) :
    (timedOut v p s).devLog = s.devLog ++ [⟨s.st.pollReg, 0x00, v⟩, ⟨0x03, 0x08, p⟩] := by
  rw [append_pair, ← polled_devLog]
  rfl

/-- STATE in ABORTED: not busy, the code of the reason, and 6. -/
theorem stateByte_of_aborted {t : State} (h : t.st = .aborted) : t.stateByte = 0#2 ++ t.reason.code ++ 6#4 := by
  rw [State.stateByte, State.busy, h]
  cases t.reason <;> rfl

theorem TickCase.timedOut_of_aborted {s t : State} (n : TickCase s t) (ht : t.st = .aborted) (hs : s.st ≠ .aborted) :
    ∃ v p, s.st.waits = true ∧ s.x.awaited s.st v = false ∧ s.wcnt + 1 = s.x.budget s.st ∧ t = timedOut v p s := by
  cases n with
  | rests _ e => exact absurd (e ▸ ht) hs
  | succeeds v _ _ _ e =>
    rw [e, pollSucceeded_st] at ht
    exact absurd ht (St.afterPoll_ne_aborted _)
  | counts v _ _ _ _ e =>
    rw [e] at ht
    exact absurd ((polled_st v s).symm.trans ht) hs
  | timesOut v p w _ a b _ e => exact ⟨v, p, w, a, b, e⟩
  | seekEnds _ _ e => rw [e] at ht; cases ht
  | issues _ _ _ _ _ _ _ _ e => rw [e] at ht; cases ht

theorem XactNext.aborted_of_aborted {r d : Byte} {s t : State} (n : XactNext r d s t) (ht : t.st = .aborted) :
    s.st = .aborted := by
  have kept (e : t.engine = s.engine) : s.st = .aborted := (congrArg EngineView.st e).symm.trans ht
  by_cases hr : r = 0x00
  · subst hr
    cases n.cmdNext.engine with
    | keeps _ _ e => exact kept e
    | starts _ _ st _ => rw [st] at ht; cases ht
    | acknowledges _ _ st _ => rw [st] at ht; cases ht
    | usesPort _ _ st _ => exact st.symm.trans ht
    | resets _ st _ => rw [st] at ht; cases ht
  · exact kept (n.engine_of_ne hr)

/-- Settles O50: only a TICK that times its stage out enters ABORTED; the row of the table is that of the stage. -/
theorem abortIssuesCommandClear : Obligations.AbortIssuesCommandClear := by
  intro s t h ht hs
  cases stepCase_of_next h with
  | waits _ e => exact absurd (e ▸ ht) hs
  | powerOn _ _ e => rw [e] at ht; cases ht
  | host _ _ _ _ n => exact absurd (n.aborted_of_aborted ht) hs
  | tick es ev n =>
    obtain ⟨v, p, w, a, b, e⟩ : ∃ v p, s.st.waits = true ∧ s.x.awaited s.st v = false ∧
      s.wcnt + 1 = s.x.budget s.st ∧ t = timedOut v p { s with events := es } := n.timedOut_of_aborted ht hs
    have latches : t.x = s.x := e ▸ timedOut_x v p _
    have regs : t.h = s.h := e ▸ timedOut_h v p _
    have log : t.devLog = s.devLog ++ [⟨s.st.pollReg, 0x00, v⟩, ⟨0x03, 0x08, p⟩] := e ▸ timedOut_devLog v p _
    have reason : t.reason = s.st.timeoutReason := e ▸ rfl
    have count : t.wcnt = s.x.budget s.st := e ▸ b
    have byte : t.polledByte s.st = v := e ▸ timedOut_polledByte v p _
    have state := stateByte_of_aborted ht
    rw [reason] at state
    refine ⟨⟨es, ev⟩, w, latches, regs, tick_of_rests (.inr (.inr ht)), v, p, log, a, ?_⟩
    cases st : s.st <;> rw [st] at w a reason count byte state
    case seekIssued => exact .inl ⟨rfl, a, reason, state, count, byte⟩
    case addrAccepted => exact .inr (.inl ⟨rfl, a, reason, state, count, byte⟩)
    case commandIssued => exact .inr (.inr ⟨rfl, (Bool.not_eq_false' _).mp a, reason, state, count, byte⟩)
    all_goals cases w

end Sys2Proof.Machine
end

section
/-! The host's pass-through to the device port (42_device_shim.md R134). -/

namespace Sys2Proof.Machine

/-- Settles O42: the one device transaction answered when not busy, else the refusal. -/
theorem devxPassesOneTransactionThrough : Obligations.DevxPassesOneTransactionThrough := by
  refine ⟨rfl, fun s => ⟨fun nb p hp => ?_, exec_refused (by decide)⟩⟩
  rw [exec, execDevx, whenNotBusy_of_not_busy (by exact nb)]
  exact devXact_eq_next.mpr ⟨p, hp, rfl⟩

end Sys2Proof.Machine
end

section
/-! The control commands NOP and SRST and the reserved codes (43_control.md). -/

namespace Sys2Proof

/-- The values of a list of words are the numbers below `2 ^ w` whose word the list holds. -/
theorem mem_map_toNat_iff {l : List (BitVec w)} {n : Nat} :
    n ∈ l.map BitVec.toNat ↔ n < 2 ^ w ∧ BitVec.ofNat w n ∈ l := by
  constructor
  · intro h
    obtain ⟨c, hc, rfl⟩ := List.mem_map.mp h
    exact ⟨c.isLt, by rwa [BitVec.ofNat_toNat, BitVec.setWidth_eq]⟩
  · rintro ⟨small, h⟩
    exact List.mem_map.mpr ⟨_, h, Nat.mod_eq_of_lt small⟩

theorem nodup_definedCodes : definedCodes.Nodup := by decide

theorem not_reservedCode_iff {d : Byte} : (!reservedCode d) = true ↔ d ∈ definedCodes := by
  rw [reservedCode, Bool.not_not, List.contains_iff_mem]

/-- The command map defines 46 codes, for no two of its rows share one (R72). -/
theorem length_filter_not_reservedCode :
    ((List.range 256).filter fun d => !reservedCode (BitVec.ofNat 8 d)).length = 46 := by
  have values : ((List.range 256).filter fun d => !reservedCode (BitVec.ofNat 8 d)).Perm
      (definedCodes.map BitVec.toNat) := by
    refine (List.perm_ext_iff_of_nodup (List.nodup_range.filter _)
      (nodup_definedCodes.map fun _ _ => BitVec.eq_of_toNat_eq)).mpr fun n => ?_
    rw [List.mem_filter, List.mem_range, not_reservedCode_iff]
    exact (mem_map_toNat_iff (w := 8)).symm
  rw [values.length_eq, List.length_map]
  rfl

/-- What a filter keeps is what its complement leaves. -/
theorem length_filter_of_length_filter_not {l : List α} {p : α → Bool} {m n : Nat} (total : l.length = m + n)
    (others : (l.filter fun a => !p a).length = n) : (l.filter p).length = m := by
  have parts := l.length_eq_length_filter_add p
  omega

/-- Of the 256 codes those that the map does not define are reserved (R75). -/
theorem length_filter_reservedCode :
    ((List.range 256).filter fun d => reservedCode (BitVec.ofNat 8 d)).length = 210 :=
  length_filter_of_length_filter_not List.length_range length_filter_not_reservedCode

end Sys2Proof

namespace Sys2Proof.Machine

/-- Settles O27: the codes left by the 46 that the command map defines; the map decodes such a code to the instruction whose
meaning stores it and raises ERR_ILLEGAL, busy or not. -/
theorem reservedCodesSetErrIllegal : Obligations.ReservedCodesSetErrIllegal :=
  ⟨length_filter_reservedCode, fun d _ h => ⟨(decodeXact_cmd d).trans (decodeCmd_of_reservedCode h), rfl⟩⟩

/-- Settles O26: the meaning of NOP is the store of its code. -/
theorem nopOnlyStoresItsCode : Obligations.NopOnlyStoresItsCode := ⟨rfl, fun _ => rfl⟩

/-- Settles O28: the meaning of SRST returns the previous code and then resets all but the ports. -/
theorem softResetInstallsTheResetState : Obligations.SoftResetInstallsTheResetState := ⟨rfl, fun _ => rfl⟩

end Sys2Proof.Machine
end

section
/-! Encoding and decoding undo each other (30_encoding.md, sections 1 to 3), and the step that decodes
(00_scope.md R4). -/

namespace Sys2Proof

@[simp] theorem decodeWord_hostWord (r d : Byte) : decodeWord (hostWord r d) = decodeXact r d := by
  rw [decodeWord, regByte_hostWord, dataByte_hostWord]

theorem decodeWord_cmdWord (d : Byte) : decodeWord (cmdWord d) = decodeCmd d :=
  (decodeWord_hostWord _ d).trans (decodeXact_cmd d)

theorem decodeWord_writeWord (reg : HReg) (v : Byte) : decodeWord (writeWord reg v) = decodeExchange v reg :=
  (decodeWord_hostWord _ v).trans (decodeXact_number reg v)

/-- The count that an advance code carries: for the counts of R73 the low nibble loses nothing. -/
theorem codeCount_advanceCode (g : BitVec 4) {n : BitVec 5} (h : advanceCount n = true) :
    codeCount (advanceCode g n) = n := by
  rw [advanceCode, codeCount_append]
  revert n
  decide

theorem decodeCmd_advanceCode16 {n : BitVec 5} (h : advanceCount n = true) :
    decodeCmd (advanceCode 0x1 n) = .adv16 n := by
  rw [decodeCmd_group1 (d := advanceCode 0x1 n) (codeGroup_append _ _), codeCount_advanceCode _ h]

theorem decodeCmd_advanceCode31 {n : BitVec 5} (h : advanceCount n = true) :
    decodeCmd (advanceCode 0x2 n) = .adv31 n := by
  rw [decodeCmd_group2 (d := advanceCode 0x2 n) (codeGroup_append _ _), codeCount_advanceCode _ h]

theorem decodeXact_of_reservedWritable {r : Byte} (h : reservedWritable r = true) (d : Byte) :
    decodeXact r d = .wrReserved r d := by
  simp only [reservedWritable, Bool.and_eq_true, decide_eq_true_eq] at h
  exact Machine.decodeXact_reservedWritable h d

theorem decodeXact_of_readOnlyNumber {r : Byte} (h : readOnlyNumber r = true) (d : Byte) : decodeXact r d = .rd r d :=
  Machine.decodeXact_readOnly (of_decide_eq_true h) d

/-- The word of a well-formed instruction decodes to it: by the format of its row (R70). -/
theorem decodeWord_encode {i : Instr} (h : i.wellFormed = true) : decodeWord (encode i) = i := by
  cases i with
  | adv16 n => exact (decodeWord_cmdWord _).trans (decodeCmd_advanceCode16 h)
  | adv31 n => exact (decodeWord_cmdWord _).trans (decodeCmd_advanceCode31 h)
  | reservedCmd d => exact (decodeWord_cmdWord d).trans (decodeCmd_of_reservedCode h)
  | wrReserved r x => exact (decodeWord_hostWord r x).trans (decodeXact_of_reservedWritable h x)
  | rd r x => exact (decodeWord_hostWord r x).trans (decodeXact_of_readOnlyNumber h x)
  | wrCylLo v | wrCylHi v | wrHead v | wrSector v | wrT1Lo v | wrT1Hi v | wrT2Lo v | wrT2Hi v | wrT3Lo v | wrT3Hi v
  | wrSeed16Lo v | wrSeed16Hi v | wrSeed31B0 v | wrSeed31B1 v | wrSeed31B2 v | wrSeed31B3 v | wrDevReg v
  | wrDevData v =>
    exact decodeWord_writeWord _ v
  | nop | byte16_8 | byte16_16 | byte31_8 | byte31_16 | seed16 | seed31 | xseek | xread | xwrite | ack | readychk | devx
  | srst => exact decodeWord_cmdWord _

theorem decode_encodeBytes (i : Instr) : decode (encodeBytes i) = .ok (decodeWord (encode i)) := rfl

/-- Settles O1: a word decodes by its format, and the two bytes are those of the word. -/
theorem decodeOfEncodeGivesInstruction : Obligations.DecodeOfEncodeGivesInstruction := fun i h =>
  ⟨decodeWord_encode h, (decode_encodeBytes i).trans (congrArg Except.ok (decodeWord_encode h))⟩

/-- What a CMD write decodes to is well-formed and has that write as its word. -/
theorem encode_decodeCmd (d : Byte) : encode (decodeCmd d) = cmdWord d ∧ (decodeCmd d).wellFormed = true := by
  cases cmdCase d with
  | adv16 n c w i | adv31 n c w i =>
    rw [i, c]
    exact ⟨rfl, w⟩
  | reserved c i =>
    rw [i]
    exact ⟨rfl, c⟩
  | nop c i | byte16_8 c i | byte16_16 c i | byte31_8 c i | byte31_16 c i | seed16 c i | seed31 c i | xseek c i
  | xread c i | xwrite c i | ack c i | readychk c i | devx c i | srst c i =>
    rw [i, c]
    exact ⟨rfl, rfl⟩

theorem encode_decodeExchange {reg : HReg} (n : reg ≠ .cmd) (d : Byte) :
    encode (decodeExchange d reg) = hostWord reg.number d ∧ (decodeExchange d reg).wellFormed = true := by
  cases reg with
  | cmd => exact absurd rfl n
  | _ => exact ⟨rfl, rfl⟩

theorem encode_decodeXact (r d : Byte) :
    encode (decodeXact r d) = hostWord r d ∧ (decodeXact r d).wellFormed = true := by
  cases xactCase r d with
  | cmd e _ i =>
    rw [i, e]
    exact encode_decodeCmd d
  | write reg n e i =>
    rw [i, e]
    exact encode_decodeExchange n d
  | reserved c i | read c i =>
    rw [i]
    exact ⟨rfl, c⟩

/-- Settles O2: a word is the word of its two halves, and a transaction is encoded as its own word. -/
theorem encodeOfDecodeGivesWord : Obligations.EncodeOfDecodeGivesWord := fun x => by
  obtain ⟨word, wf⟩ := encode_decodeXact (regByte x) (dataByte x)
  exact ⟨word.trans (hostWord_halves x), wf⟩

/-- Settles O4: the ten words are evaluated. -/
theorem writtenOutWordsDecode : Obligations.WrittenOutWordsDecode := by
  unfold Obligations.WrittenOutWordsDecode
  decide

end Sys2Proof

namespace Sys2Proof.Machine

/-- A word placed with its full width is the next host transaction. -/
theorem State.withFetchWord_toNat (s : State) (x : Word) :
    s.withFetchWord 16 x.toNat = { s with events := .host (regByte x) (dataByte x) :: s.events } := by
  have word : tableWord? 16 x.toNat = some x := by
    rw [tableWord?, if_pos le_rfl, Nat.mod_eq_of_lt x.isLt, BitVec.ofNat_toNat, BitVec.setWidth_eq]
  rw [State.withFetchWord, word]

/-- Settles O5: a host transaction runs what its bytes decode to, which for the word of an instruction is that
instruction. -/
theorem stepRunsTheDecodedInstruction : Obligations.StepRunsTheDecodedInstruction := by
  have runs (i : Instr) (s : State) (es : List Event) (wf : i.wellFormed = true)
      (ev : s.events = .host (regByte (encode i)) (dataByte (encode i)) :: es) :
      step s = exec i { s with events := es } :=
    (step_of_host ev).trans (congrArg (exec · _) (decodeWord_encode wf))
  refine ⟨runs, fun i s wf => ?_⟩
  rw [State.withFetchWord_toNat]
  exact runs i _ s.events wf rfl

/-- Settles O6: a step on each of the other events, as `step` takes them. -/
theorem stepOnTickPowerOnAndNoEvent : Obligations.StepOnTickPowerOnAndNoEvent := fun _ _ =>
  ⟨step_of_tick, step_of_powerOn, step_of_no_event⟩

end Sys2Proof.Machine
end

section
/-! The invariant of the block (10_state.md, section 3; 41_handshake.md, sections 1 to 3) and the wait counter (R39). -/

namespace Sys2Proof.Machine

/-! What a TICK does to the latches and the wait counter. -/

@[simp] theorem pollSucceeded_x (s : State) : (pollSucceeded s).x = s.x := by
  unfold pollSucceeded
  cases s.st <;> rfl

theorem pollSucceeded_wcnt (s : State) : (pollSucceeded s).wcnt = if s.st = .seekIssued then 0 else s.wcnt := by
  unfold pollSucceeded
  cases s.st <;> rfl

theorem EngineOnly.x {s t : State} (h : EngineOnly s t) : t.x = s.x := by
  unfold EngineOnly at h
  rw [h]

/-- In a wait stage WCNT is below the budget of that stage, and a seek-only transaction is in no completion stage. -/
theorem countFits_iff_of_waits {s : State} (w : s.st.waits = true) :
    s.countFits = true ↔ (s.st = .commandIssued → s.x.xop ≠ .seek) ∧ s.wcnt < s.x.budget s.st := by
  revert w
  unfold State.countFits
  cases s.st <;> simp [St.waits, Latches.budget]

/-- Below its budget WCNT can count one more poll without wrapping. -/
theorem toNat_succ_of_countFits {s : State} (fits : s.countFits = true) (w : s.st.waits = true) :
    (s.wcnt + 1).toNat = s.wcnt.toNat + 1 := by
  obtain ⟨-, below⟩ := (countFits_iff_of_waits w).mp fits
  bv_omega

/-- After the timeout of the wait stage `st` WCNT is the budget of that stage. -/
theorem countFits_iff_of_aborted {t : State} {st : St} (w : st.waits = true) (h : t.st = .aborted)
    (r : t.reason = st.timeoutReason) :
    t.countFits = true ↔ (st = .commandIssued → t.x.xop ≠ .seek) ∧ t.wcnt = t.x.budget st := by
  revert w
  rw [State.countFits, h, r]
  cases st <;> simp [St.waits, St.timeoutReason, Latches.budget]

theorem timeoutReason_ne_none {st : St} (w : st.waits = true) : st.timeoutReason ≠ .none := by
  revert w
  cases st <;> decide

theorem ne_aborted_of_waits {st : St} (w : st.waits = true) : st ≠ .aborted := by
  rintro rfl
  cases w

/-! The engine. -/

/-- A reason stands exactly in ABORTED, so that without either the one is as good as the other. -/
theorem reason_iff_of_ne {t : State} (r : t.reason = .none) (h : t.st ≠ .aborted) :
    t.reason ≠ .none ↔ t.st = .aborted :=
  iff_of_false (not_not_intro r) h

theorem State.EngineInv.reason_eq_none {s : State} (inv : s.EngineInv) (h : s.st ≠ .aborted) : s.reason = .none := by
  obtain ⟨reason, -⟩ := inv
  exact not_not.mp (mt reason.mp h)

/-- The wait counter still fits after a poll that succeeds. -/
theorem countFits_pollSucceeded {s : State} (w : s.st.waits = true) (b2 : 1 ≤ s.x.xt2) (fits : s.countFits = true) :
    (pollSucceeded s).countFits = true := by
  obtain ⟨op, below⟩ := (countFits_iff_of_waits w).mp fits
  rw [State.countFits, pollSucceeded_st, pollSucceeded_wcnt, pollSucceeded_x]
  cases st : s.st <;> rw [st] at w op below
  case seekIssued => exact decide_eq_true (by simpa [BitVec.lt_def, BitVec.le_def, Nat.succ_le_iff] using b2)
  case addrAccepted => exact decide_eq_true below
  case commandIssued =>
    simp only [St.afterPoll, reduceCtorEq, if_false, if_neg (op rfl)]
    exact decide_eq_true below
  all_goals cases w

theorem TickCase.engineInv {s t : State} (n : TickCase s t) (inv : s.EngineInv) : t.EngineInv := by
  have latches : t.x = s.x := n.engineOnly.x
  obtain ⟨-, b1, b2, b3, fits⟩ := id inv
  suffices (t.reason ≠ .none ↔ t.st = .aborted) ∧ t.countFits = true by
    obtain ⟨reason, fits⟩ := this
    exact ⟨reason, latches ▸ b1, latches ▸ b2, latches ▸ b3, fits⟩
  cases n with
  | rests _ e =>
    subst e
    exact ⟨inv.1, fits⟩
  | succeeds v w _ _ e =>
    subst e
    have none : s.reason = .none := inv.reason_eq_none (ne_aborted_of_waits w)
    refine ⟨reason_iff_of_ne ?_ ?_, countFits_pollSucceeded ?_ ?_ ?_⟩
    · rw [pollSucceeded_reason, polled_reason, none]
    · rw [pollSucceeded_st]
      exact St.afterPoll_ne_aborted _
    · rwa [polled_st]
    · rwa [polled_x]
    · simpa only [State.countFits, polled_st, polled_wcnt, polled_x, polled_reason] using fits
  | counts v w _ _ b e =>
    have st : t.st = s.st := e ▸ polled_st v s
    have reason : t.reason = s.reason := e ▸ polled_reason v s
    have count : t.wcnt = s.wcnt + 1 := e ▸ rfl
    obtain ⟨op, below⟩ := (countFits_iff_of_waits w).mp fits
    refine ⟨by rw [st, reason]; exact inv.1, (countFits_iff_of_waits (st ▸ w)).mpr ?_⟩
    rw [st, latches, count]
    exact ⟨op, by bv_omega⟩
  | timesOut v p w _ _ b _ e =>
    have st : t.st = .aborted := e ▸ rfl
    have reason : t.reason = s.st.timeoutReason := e ▸ rfl
    have count : t.wcnt = s.wcnt + 1 := e ▸ rfl
    obtain ⟨op, -⟩ := (countFits_iff_of_waits w).mp fits
    refine ⟨iff_of_true (reason ▸ timeoutReason_ne_none w) st, (countFits_iff_of_aborted w st reason).mpr ?_⟩
    rw [latches, count]
    exact ⟨op, b⟩
  | seekEnds h o e =>
    have none : s.reason = .none := inv.reason_eq_none (by rw [h]; nofun)
    have below : s.wcnt < s.x.xt2 := by simpa [State.countFits, h] using fits
    subst e
    exact ⟨reason_iff_of_ne none nofun, by simpa [State.countFits, o] using below⟩
  | issues p q u h o _ _ _ e =>
    have none : s.reason = .none := inv.reason_eq_none (by rw [h]; nofun)
    have below : 0 < s.x.xt3 := by bv_omega
    subst e
    exact ⟨reason_iff_of_ne none nofun, (countFits_iff_of_waits rfl).mpr ⟨fun _ => o, below⟩⟩

theorem one_le_effectiveBudget (t : Word) : 1 ≤ effectiveBudget t := by
  rw [effectiveBudget, umax]
  split <;> bv_omega

theorem engineInv_reset : State.reset.EngineInv := ⟨reason_iff_of_ne rfl nofun, by decide, by decide, by decide, rfl⟩

theorem CmdNext.engineInv {d : Byte} {s t : State} (n : CmdNext d s t) (inv : s.EngineInv) : t.EngineInv := by
  obtain ⟨-, b1, b2, b3, -⟩ := id inv
  cases n
  case start op p q _ _ _ _ e =>
    subst e
    have below : 0 < effectiveBudget s.h.t1 := by have := one_le_effectiveBudget s.h.t1; bv_omega
    exact ⟨reason_iff_of_ne rfl nofun, one_le_effectiveBudget _, one_le_effectiveBudget _, one_le_effectiveBudget _,
      decide_eq_true below⟩
  case ack e =>
    subst e
    exact ⟨reason_iff_of_ne rfl nofun, b1, b2, b3, rfl⟩
  case srst e =>
    subst e
    exact engineInv_reset
  all_goals
    subst t
    exact inv

theorem engineInv_of_engine {s t : State} (h : t.engine = s.engine) (inv : s.EngineInv) : t.EngineInv := by
  obtain ⟨⟩ := s
  obtain ⟨⟩ := t
  cases h
  exact inv

theorem step_keeps_engineInv {s t : State} (h : step s = .next t) (inv : s.EngineInv) : t.EngineInv := by
  cases stepCase_of_next h with
  | waits _ e => exact e ▸ inv
  | powerOn es _ e => exact e ▸ engineInv_reset
  | tick es _ n => exact n.engineInv inv
  | host r d es _ n =>
    by_cases hr : r = 0x00
    · subst hr
      exact n.cmdNext.engineInv inv
    · exact engineInv_of_engine (n.engine_of_ne hr) inv

/-! The device transactions. -/

/-- A failed poll in COMMAND_ISSUED is one more poll after the command byte; it does not wrap WCNT. -/
theorem portFits_of_counts {s t : State} {v : Byte} (inv : s.Inv) (h : s.st = .commandIssued)
    (e : t = { polled v s with wcnt := s.wcnt + 1 }) : t.portFits := by
  obtain ⟨⟨-, -, -, -, fits⟩, port⟩ := inv
  have w : s.st.waits = true := h ▸ rfl
  have sent : t.sent = s.sent ++ [(Config.devStatus2, 0x00)] := by
    have polled := sent_polled w v
    rw [h] at polled
    exact e ▸ polled
  have latches : t.x = s.x := e ▸ polled_x v s
  have count : t.wcnt.toNat = s.wcnt.toNat + 1 := e ▸ toNat_succ_of_countFits fits w
  intro _
  rw [sent, latches, count, List.replicate_succ', ← List.cons_append]
  exact List.suffix_append_self_iff.mpr (port h)

theorem TickCase.portFits {s t : State} (n : TickCase s t) (inv : s.Inv) : t.portFits := by
  intro h
  cases n with
  | rests _ e => exact e ▸ inv.2 (e ▸ h)
  | succeeds v _ _ _ e =>
    rw [e, pollSucceeded_st, polled_st] at h
    cases st : s.st <;> rw [st] at h <;> cases h
  | counts v _ _ _ _ e =>
    have st : s.st = .commandIssued := by rw [← polled_st v s, ← h, e]
    exact portFits_of_counts inv st e h
  | timesOut _ _ _ _ _ _ _ e => rw [e] at h; cases h
  | seekEnds _ _ e => rw [e] at h; cases h
  | issues p q u _ _ _ _ _ e =>
    subst e
    have sent := sent_recordXact Config.devCommand (transferByte s.x.xop) u
      (recordXact Config.devSector s.x.xsec q (recordXact Config.devHead s.x.xhead p s))
    exact ⟨_, sent.symm⟩

/-- Of the host transactions those that leave COMMAND_ISSUED behind keep the engine. -/
theorem XactNext.engine_of_commandIssued {r d : Byte} {s t : State} (n : XactNext r d s t)
    (h : t.st = .commandIssued) : t.engine = s.engine := by
  by_cases hr : r = 0x00
  · subst hr
    cases n.cmdNext.engine with
    | keeps _ _ e => exact e
    | starts _ _ st _ => rw [st] at h; cases h
    | acknowledges _ _ st _ => rw [st] at h; cases h
    | usesPort _ b st _ =>
      rw [State.busy, ← st, h] at b
      cases b
    | resets _ st _ => rw [st] at h; cases h
  · exact n.engine_of_ne hr

theorem portFits_of_engine {s t : State} (h : t.engine = s.engine) (fits : s.portFits) : t.portFits := by
  obtain ⟨⟩ := s
  obtain ⟨⟩ := t
  cases h
  exact fits

theorem step_keeps_portFits {s t : State} (h : step s = .next t) (inv : s.Inv) : t.portFits := by
  cases stepCase_of_next h with
  | waits _ e => exact e ▸ inv.2
  | powerOn es _ e => exact e ▸ nofun
  | tick es _ n => exact n.portFits inv
  | host r d es _ n => exact fun st => portFits_of_engine (n.engine_of_commandIssued st) inv.2 st

/-- Settles O44: the engine's part by the cases of a step, and with it the part of the port. -/
theorem invariantKeptByEveryStep : Obligations.InvariantKeptByEveryStep := fun _ _ h =>
  ⟨step_keeps_engineInv h, fun inv => ⟨step_keeps_engineInv h inv.1, step_keeps_portFits h inv⟩⟩

/-- Settles O43: at reset no reason stands and no stage runs. -/
theorem invariantHoldsAtReset : Obligations.InvariantHoldsAtReset := ⟨engineInv_reset, nofun⟩

/-! The wait counter. -/

theorem busy_of_waits {st : St} (w : st.waits = true) : st.busy = true := by
  cases st with
  | idle | done | aborted => cases w
  | driveReady | seekIssued | addrAccepted | commandIssued => rfl

/-- The ways in which a TICK changes WCNT: on entry to a wait stage and by one for a failed poll. -/
theorem TickCase.wcnt {s t : State} (n : TickCase s t) (fits : s.countFits = true) (changed : t.wcnt ≠ s.wcnt) :
    (t.wcnt = 0 ∧ t.st.waits = true ∧ t.st ≠ s.st) ∨
    (t.wcnt.toNat = s.wcnt.toNat + 1 ∧ s.st.waits = true ∧ (t.st = s.st ∨ t.st = .aborted) ∧
      ∃ v, controllerReply s 0 s.st.pollReg 0x00 = some v ∧ s.x.awaited s.st v = false) := by
  cases n with
  | rests _ e => exact absurd (e ▸ rfl) changed
  | succeeds v w _ _ e =>
    rw [e, pollSucceeded_wcnt, polled_st, polled_wcnt] at changed
    have st : s.st = .seekIssued := by
      by_contra ne
      exact changed (if_neg ne)
    have entered : t.st = .addrAccepted := by rw [e, pollSucceeded_st, polled_st, st]; rfl
    refine .inl ⟨?_, by rw [entered]; rfl, by rw [entered, st]; nofun⟩
    rw [e, pollSucceeded_wcnt, polled_st, if_pos st]
  | counts v w r a _ e =>
    have count : t.wcnt = s.wcnt + 1 := e ▸ rfl
    exact .inr ⟨count ▸ toNat_succ_of_countFits fits w, w, .inl (e ▸ polled_st v s), v, r, a⟩
  | timesOut v p w r a _ _ e =>
    have count : t.wcnt = s.wcnt + 1 := e ▸ rfl
    exact .inr ⟨count ▸ toNat_succ_of_countFits fits w, w, .inr (e ▸ rfl), v, r, a⟩
  | seekEnds _ _ e => exact absurd (e ▸ rfl) changed
  | issues p q u h _ _ _ _ e =>
    subst e
    exact .inl ⟨rfl, rfl, by rw [h]; nofun⟩

/-- The ways in which a CMD write changes WCNT: by a start command and by SRST. -/
theorem CmdNext.wcnt {d : Byte} {s t : State} (n : CmdNext d s t) (changed : t.wcnt ≠ s.wcnt) :
    (t.wcnt = 0 ∧ t.st.waits = true ∧ t.st ≠ s.st) ∨ (t.wcnt = 0 ∧ d = 0xFF) := by
  cases n
  case start b _ _ e =>
    subst e
    refine .inl ⟨rfl, rfl, fun st => ?_⟩
    rw [State.busy, ← st] at b
    cases b
  case srst c e => exact .inr ⟨e ▸ rfl, c⟩
  all_goals
    subst t
    exact absurd rfl changed

/-- Settles O45: by the cases of a step; a failed poll does not wrap, for WCNT was below the budget of its stage. -/
theorem waitCounterCountsFailedPolls : Obligations.WaitCounterCountsFailedPolls := by
  intro s t fits h changed
  cases stepCase_of_next h with
  | waits _ e => exact absurd (e ▸ rfl) changed
  | powerOn es ev e => exact .inr (.inl ⟨e ▸ rfl, es, .inr ev⟩)
  | tick es ev n =>
    obtain entry | ⟨count, w, st, v, r, a⟩ := n.wcnt fits changed
    · exact .inl entry
    · exact .inr (.inr ⟨count, w, st, es, v, ev, r, a⟩)
  | host r d es ev n =>
    by_cases hr : r = 0x00
    · subst hr
      obtain entry | ⟨zero, c⟩ := n.cmdNext.wcnt changed
      · exact .inl entry
      · exact .inr (.inl ⟨zero, es, .inl (c ▸ ev)⟩)
    · exact absurd (congrArg EngineView.wcnt (n.engine_of_ne hr)) changed

end Sys2Proof.Machine
end

section
/-! The cycles of the generators (40_lfsr.md, section 1, derived properties; R82, R83). Each generator is the complement
of a linear register, so that its position after many steps is found by squaring. -/

namespace Sys2Proof.Machine

/-! The linear register. -/

/-- A map on words that goes through exclusive or. -/
def XorLinear (f : BitVec w → BitVec w) : Prop := ∀ a b, f (a ^^^ b) = f a ^^^ f b

theorem XorLinear.zero {f : BitVec w → BitVec w} (hf : XorLinear f) : f 0#w = 0#w := by
  have h := hf 0#w 0#w
  rwa [BitVec.xor_self, BitVec.xor_self] at h

theorem foldl_parity_xor (a b : BitVec w) (taps : List Nat) (p q : Bool) :
    taps.foldl (fun r i => r ^^ (a ^^^ b).getLsbD i) (p ^^ q) =
      (taps.foldl (fun r i => r ^^ a.getLsbD i) p ^^ taps.foldl (fun r i => r ^^ b.getLsbD i) q) := by
  induction taps generalizing p q with
  | nil => rfl
  | cons i taps ih =>
    have regroup : ((p ^^ q) ^^ (a ^^^ b).getLsbD i) = ((p ^^ a.getLsbD i) ^^ (q ^^ b.getLsbD i)) := by
      rw [BitVec.getLsbD_xor, Bool.xor_assoc, Bool.xor_assoc, Bool.xor_left_comm q]
    rw [List.foldl_cons, regroup, ih]
    rfl

theorem parity_xor (a b : BitVec w) (taps : List Nat) : parity (a ^^^ b) taps = (parity a taps ^^ parity b taps) :=
  foldl_parity_xor a b taps false false

/-- One position of the register that shifts the parity itself in, with no complement. -/
def xorStep (taps : List Nat) (u : BitVec (w + 1)) : BitVec (w + 1) := BitVec.cons (parity u taps) (u.extractLsb' 1 w)

theorem xorStep_xorLinear (taps : List Nat) : XorLinear (xorStep (w := w) taps) := by
  intro a b
  rw [xorStep, parity_xor, BitVec.extractLsb'_xor, ← BitVec.cons_xor_cons]
  rfl

theorem parity_not_taps16 (v : Gen16) : parity (~~~ v) Config.taps16 = parity v Config.taps16 := by
  simp [parity, Config.taps16]

theorem parity_not_taps31 (v : Gen31) : parity (~~~ v) Config.taps31 = parity v Config.taps31 := by
  simp [parity, Config.taps31]

theorem not_cons_extractLsb'_not (b : Bool) (s : BitVec (w + 1)) :
    ~~~ (BitVec.cons b ((~~~ s).extractLsb' 1 w)) = BitVec.cons (!b) (s.extractLsb' 1 w) := by
  have low : (~~~ s).extractLsb' 1 w = ~~~ (s.extractLsb' 1 w) := by
    ext i hi
    simp
    omega
  rw [low, BitVec.not_cons, BitVec.not_not]

theorem step16_eq_not_xorStep (s : Gen16) : step16 s = ~~~ xorStep (w := 15) Config.taps16 (~~~ s) := by
  rw [xorStep, parity_not_taps16, not_cons_extractLsb'_not]
  rfl

theorem step31_eq_not_xorStep (s : Gen31) : step31 s = ~~~ xorStep (w := 30) Config.taps31 (~~~ s) := by
  rw [xorStep, parity_not_taps31, not_cons_extractLsb'_not]
  rfl

/-- The polynomial with the coefficients `cs`, the constant one first, of `f` at `u`. -/
def polyApply (f : BitVec w → BitVec w) : List Bool → BitVec w → BitVec w
  | [], _ => 0#w
  | c :: cs, u => (bif c then u else 0#w) ^^^ f (polyApply f cs u)

theorem polyApply_commute {f : BitVec w → BitVec w} (hf : XorLinear f) (cs : List Bool) :
    Function.Commute (polyApply f cs) f := by
  intro u
  induction cs with
  | nil => exact hf.zero.symm
  | cons c cs ih =>
    have coeff : (bif c then f u else 0#w) = f (bif c then u else 0#w) := by
      cases c
      · exact hf.zero.symm
      · rfl
    rw [polyApply, polyApply, ih, coeff, hf]

/-- If `f^[n] e` is a polynomial of `f` at `e`, the same polynomial at `f^[n] e` doubles the steps. -/
theorem iterate_double {f : BitVec w → BitVec w} (hf : XorLinear f) {n : Nat} {e v : BitVec w} {cs : List Bool}
    (h : f^[n] e = v) (poly : polyApply f cs e = v) : f^[2 * n] e = polyApply f cs v := by
  have comm := (polyApply_commute hf cs).iterate_right n
  calc f^[2 * n] e
      = f^[n] v := by rw [two_mul, Function.iterate_add_apply, h]
    _ = f^[n] (polyApply f cs e) := by rw [poly]
    _ = polyApply f cs v := by rw [← comm.eq, h]

/-- `f^[n] e` by doubling, for `n` below `2 ^ k`; `coords v` proposes the polynomial that leads from `e` to `v`. -/
def leap (f : BitVec w → BitVec w) (coords : BitVec w → List Bool) (e : BitVec w) : Nat → Nat → Option (BitVec w)
  | 0, _ => some e
  | k + 1, n =>
    match leap f coords e k (n / 2) with
    | none => none
    | some v =>
      if polyApply f (coords v) e = v then
        some (if n % 2 = 1 then f (polyApply f (coords v) v) else polyApply f (coords v) v)
      else none

/-- A leap that goes through ends where the steps do. -/
theorem iterate_of_leap {f : BitVec w → BitVec w} (hf : XorLinear f) {coords : BitVec w → List Bool} {e v : BitVec w}
    {k n : Nat} (small : n < 2 ^ k) (h : leap f coords e k n = some v) : f^[n] e = v := by
  induction k generalizing n v with
  | zero =>
    have zero : n = 0 := by omega
    rw [zero]
    exact Option.some.inj h
  | succ k ih =>
    rw [leap] at h
    split at h
    · cases h
    · rename_i u hu
      split_ifs at h with poly odd
      all_goals
        have double := iterate_double hf (ih (by omega) hu) poly
        rw [← Option.some.inj h]
      · have digits : n = 2 * (n / 2) + 1 := by omega
        rw [digits, Function.iterate_succ_apply', double]
      · have digits : n = 2 * (n / 2) := by omega
        rw [digits, double]

/-- The coefficients, the constant one first, of the polynomial of the register that leads from the top bit to `v`: from
the top bit down, those of `v` and its copies shifted up by the distances to the taps. Only a proposal, which `leap`
checks. -/
def coords (taps : List Nat) (v : BitVec w) : List Bool :=
  (List.range w).map (taps.foldl (fun c t => c ^^^ v <<< (w - t)) v).getMsbD

/-! The position of a generator after many steps, counted from the state with the top bit alone clear. -/

/-- If the linear register at the complement leaps from `e` to `v`, the generator goes from `~~~ e` to `~~~ v`. -/
theorem iterate_of_leap_not {step : BitVec (w + 1) → BitVec (w + 1)} {taps : List Nat} {e v : BitVec (w + 1)}
    {k n : Nat} (compl : ∀ s, step s = ~~~ xorStep taps (~~~ s)) (small : n < 2 ^ k)
    (h : leap (xorStep taps) (coords taps) e k n = some v) : step^[n] (~~~ e) = ~~~ v := by
  have conj : Function.Semiconj (~~~ ·) (xorStep taps) step := fun s => by rw [compl, BitVec.not_not]
  rw [← iterate_of_leap (xorStep_xorLinear taps) small h]
  exact ((conj.iterate_right n).eq e).symm

theorem step16_iterate_of_leap {e v : Gen16} {n : Nat} (small : n < 2 ^ 16)
    (h : leap (xorStep (w := 15) Config.taps16) (coords Config.taps16) e 16 n = some v) :
    step16^[n] (~~~ e) = ~~~ v :=
  iterate_of_leap_not step16_eq_not_xorStep small h

theorem step16_iterate_65535 : step16^[65535] 0x7FFF = 0x7FFF :=
  step16_iterate_of_leap (e := 0x8000) (v := 0x8000) (by decide) (by decide +kernel)

theorem step16_iterate_21845 : step16^[21845] 0x7FFF = 0xE4CA :=
  step16_iterate_of_leap (e := 0x8000) (v := 0x1B35) (by decide) (by decide +kernel)

theorem step16_iterate_13107 : step16^[13107] 0x7FFF = 0xC89E :=
  step16_iterate_of_leap (e := 0x8000) (v := 0x3761) (by decide) (by decide +kernel)

theorem step16_iterate_3855 : step16^[3855] 0x7FFF = 0x9ACA :=
  step16_iterate_of_leap (e := 0x8000) (v := 0x6535) (by decide) (by decide +kernel)

theorem step16_iterate_255 : step16^[255] 0x7FFF = 0x5CFF :=
  step16_iterate_of_leap (e := 0x8000) (v := 0xA300) (by decide) (by decide +kernel)

theorem step31_iterate_2147483647 : step31^[2147483647] 0x3FFFFFFF = 0x3FFFFFFF :=
  iterate_of_leap_not (w := 30) (k := 31) (e := 0x40000000) (v := 0x40000000) step31_eq_not_xorStep (by decide)
    (by decide +kernel)

/-! Cycles. -/

/-- A period that no prime divides further is the least one. -/
theorem minimalPeriod_eq_of_prime {f : α → α} {x : α} {n : Nat} (h : f^[n] x = x)
    (least : ∀ q, q.Prime → q ∣ n → f^[n / q] x ≠ x) : Function.minimalPeriod f x = n := by
  obtain ⟨k, hk⟩ := Function.IsPeriodicPt.minimalPeriod_dvd (f := f) h
  by_contra ne
  have hk1 : k ≠ 1 := by
    rintro rfl
    exact ne (by rw [hk, mul_one])
  obtain ⟨q, hq, m, rfl⟩ := Nat.exists_prime_and_dvd hk1
  have n_eq : n = q * (Function.minimalPeriod f x * m) := by rw [hk, mul_left_comm]
  refine least q hq ⟨_, n_eq⟩ ?_
  rw [n_eq, Nat.mul_div_cancel_left _ hq.pos]
  exact Function.isPeriodicPt_iff_minimalPeriod_dvd.mpr ⟨m, rfl⟩

/-- `f` leaves `a` where it is and moves everything else around one cycle of `n` states. -/
structure OneCycle (f : α → α) (a : α) (n : Nat) : Prop where
  fixed : f a = a
  notFixed : n ≠ 1
  pos : 0 < n
  period : ∀ s, s ≠ a → Function.minimalPeriod f s = n
  covers : ∀ s v, s ≠ a → v ≠ a → ∃ k, k < n ∧ f^[k] s = v

theorem iterate_ne_of_minimalPeriod {f : α → α} {e a : α} {n : Nat} (fixed : f a = a) (notFixed : n ≠ 1) (pos : 0 < n)
    (period : Function.minimalPeriod f e = n) (k : Nat) : f^[k] e ≠ a := by
  intro h
  have periodic : e ∈ Function.periodicPts f := Function.minimalPeriod_pos_iff_mem_periodicPts.mp (period ▸ pos)
  have same := Function.minimalPeriod_apply_iterate periodic k
  rw [h, Function.minimalPeriod_eq_one_iff_isFixedPt.mpr fixed, period] at same
  exact notFixed same.symm

/-- A cycle of as many states as there are beside `a` goes through all of them. -/
theorem covers_of_minimalPeriod [Fintype α] {f : α → α} {e a : α} {n : Nat} (card : Fintype.card α = n + 1)
    (avoids : ∀ k, f^[k] e ≠ a) (period : Function.minimalPeriod f e = n) {v : α} (hv : v ≠ a) :
    ∃ k, k < n ∧ f^[k] e = v := by
  classical
  have inj : Set.InjOn (f^[·] e) (Finset.range n) := by
    rw [Finset.coe_range, ← period]
    exact Function.iterate_injOn_Iio_minimalPeriod
  have sub : (Finset.range n).image (f^[·] e) ⊆ Finset.univ.erase a := fun s hs => by
    obtain ⟨k, -, rfl⟩ := Finset.mem_image.mp hs
    exact Finset.mem_erase.mpr ⟨avoids k, Finset.mem_univ _⟩
  have size : (Finset.univ.erase a).card ≤ ((Finset.range n).image (f^[·] e)).card := by
    rw [Finset.card_image_of_injOn inj, Finset.card_range, Finset.card_erase_of_mem (Finset.mem_univ a),
      Finset.card_univ, card, Nat.add_sub_cancel]
  have all : v ∈ (Finset.range n).image (f^[·] e) := by
    rw [Finset.eq_of_subset_of_card_le sub size]
    exact Finset.mem_erase.mpr ⟨hv, Finset.mem_univ v⟩
  obtain ⟨k, hk, rfl⟩ := Finset.mem_image.mp all
  exact ⟨k, Finset.mem_range.mp hk, rfl⟩

theorem oneCycle_of_minimalPeriod [Fintype α] {f : α → α} {e a : α} {n : Nat} (card : Fintype.card α = n + 1)
    (fixed : f a = a) (notFixed : n ≠ 1) (pos : 0 < n) (period : Function.minimalPeriod f e = n) : OneCycle f a n := by
  have periodAll (s : α) (hs : s ≠ a) : Function.minimalPeriod f s = n := by
    have avoids := iterate_ne_of_minimalPeriod fixed notFixed pos period
    obtain ⟨k, -, rfl⟩ := covers_of_minimalPeriod card avoids period hs
    have periodic : e ∈ Function.periodicPts f := Function.minimalPeriod_pos_iff_mem_periodicPts.mp (period ▸ pos)
    rw [Function.minimalPeriod_apply_iterate periodic, period]
  exact ⟨fixed, notFixed, pos, periodAll, fun s v hs => covers_of_minimalPeriod card
    (iterate_ne_of_minimalPeriod fixed notFixed pos (periodAll s hs)) (periodAll s hs)⟩

theorem OneCycle.fixed_iff {f : α → α} {a : α} {n : Nat} (h : OneCycle f a n) (s : α) : f s = s ↔ s = a := by
  refine ⟨fun hs => ?_, fun hs => hs ▸ h.fixed⟩
  by_contra ne
  exact h.notFixed ((h.period s ne).symm.trans (Function.minimalPeriod_eq_one_iff_isFixedPt.mpr hs))

theorem OneCycle.returns {f : α → α} {a : α} {n : Nat} (h : OneCycle f a n) (s : α) : f^[n] s = s := by
  by_cases hs : s = a
  · subst hs
    exact Function.iterate_fixed h.fixed n
  · rw [← h.period s hs, Function.iterate_minimalPeriod]

theorem OneCycle.visitsOnce {f : α → α} {a : α} {n : Nat} (h : OneCycle f a n) {s : α} (hs : s ≠ a) :
    (∀ k, f^[k] s ≠ a) ∧ ∀ v, v ≠ a → ∃! k, k < n ∧ f^[k] s = v := by
  refine ⟨iterate_ne_of_minimalPeriod h.fixed h.notFixed h.pos (h.period s hs), fun v hv => ?_⟩
  obtain ⟨k, small, hk⟩ := h.covers s v hs hv
  refine ⟨k, ⟨small, hk⟩, fun j hj => ?_⟩
  obtain ⟨small', hj⟩ := hj
  rw [← h.period s hs] at small small'
  exact (Function.iterate_eq_iterate_iff_of_lt_minimalPeriod small' small).mp (hj.trans hk.symm)

theorem card_word (w : Nat) : Fintype.card (BitVec w) = 2 ^ w :=
  (Fintype.card_congr BitVec.equivFin.toEquiv).trans (Fintype.card_fin _)

theorem prime_dvd_65535 {q : Nat} (hq : q.Prime) (h : q ∣ 65535) : q = 3 ∨ q = 5 ∨ q = 17 ∨ q = 257 := by
  have factors : 65535 = 3 * (5 * (17 * 257)) := by norm_num
  have p3 : Nat.Prime 3 := by norm_num
  have p5 : Nat.Prime 5 := by norm_num
  have p17 : Nat.Prime 17 := by norm_num
  have p257 : Nat.Prime 257 := by norm_num
  rwa [factors, hq.dvd_mul, hq.dvd_mul, hq.dvd_mul, Nat.prime_dvd_prime_iff_eq hq p3, Nat.prime_dvd_prime_iff_eq hq p5,
    Nat.prime_dvd_prime_iff_eq hq p17, Nat.prime_dvd_prime_iff_eq hq p257] at h

theorem minimalPeriod_step16 : Function.minimalPeriod step16 0x7FFF = 65535 := by
  refine minimalPeriod_eq_of_prime step16_iterate_65535 fun q hq h => ?_
  obtain rfl | rfl | rfl | rfl := prime_dvd_65535 hq h
  · exact ne_of_eq_of_ne step16_iterate_21845 (by decide)
  · exact ne_of_eq_of_ne step16_iterate_13107 (by decide)
  · exact ne_of_eq_of_ne step16_iterate_3855 (by decide)
  · exact ne_of_eq_of_ne step16_iterate_255 (by decide)

/-- The number of states beside the stuck one is a Mersenne prime. -/
theorem prime_2147483647 : Nat.Prime 2147483647 :=
  lucas_lehmer_sufficiency 31 (by decide) (by norm_num)

theorem minimalPeriod_step31 : Function.minimalPeriod step31 0x3FFFFFFF = 2147483647 :=
  haveI := Fact.mk prime_2147483647
  Function.minimalPeriod_eq_prime step31_iterate_2147483647 (by unfold Function.IsFixedPt; decide)

theorem oneCycle_step16 : OneCycle step16 0xFFFF 65535 :=
  oneCycle_of_minimalPeriod (card_word 16) (by decide) (by decide) (by decide) minimalPeriod_step16

theorem oneCycle_step31 : OneCycle step31 0x7FFFFFFF 2147483647 :=
  oneCycle_of_minimalPeriod (card_word 31) (by decide) (by decide) (by decide) minimalPeriod_step31

/-- Settles O9: a state of the cycle is no fixed point; the complement is that of the linear register. -/
theorem allOnesIsTheOnlyStuckState : Obligations.AllOnesIsTheOnlyStuckState :=
  ⟨oneCycle_step16.fixed_iff, oneCycle_step31.fixed_iff, step16_eq_not_xorStep⟩

/-- Settles O10: the all-ones state stays, every other one lies on the cycle. -/
theorem generatorsReturnToEveryState : Obligations.GeneratorsReturnToEveryState :=
  ⟨oneCycle_step16.returns, oneCycle_step31.returns⟩

/-- Settles O11: the states beside the stuck one form one cycle. -/
theorem gen16VisitsEachValueOnce : Obligations.Gen16VisitsEachValueOnce := fun _ => oneCycle_step16.visitsOnce

/-- Settles O12: the states beside the stuck one form one cycle. -/
theorem gen31VisitsEachValueOnce : Obligations.Gen31VisitsEachValueOnce := fun _ => oneCycle_step31.visitsOnce

end Sys2Proof.Machine
end

section
/-! Sequences of advance and byte commands (40_lfsr.md R91). -/

namespace Sys2Proof.Machine

theorem runInstrs_cons {i : Instr} {is : List Instr} {s t : State} (h : exec i s = .next t) :
    runInstrs (i :: is) s = runInstrs is t := by
  rw [runInstrs, h]

/-- If each command of a kind moves the part `own` of the state by its count and keeps the part `other`, a sequence of
them moves `own` by the sum of the counts. -/
theorem runInstrs_counts {α β : Type} {count : Instr → Option Nat} {own : State → α} {other : State → β} {move : α → α}
    (one : ∀ (i : Instr) (k : Nat) (s : State), count i = some k →
      ∃ t, exec i s = .next t ∧ own t = move^[k] (own s) ∧ other t = other s)
    (is : List Instr) (s : State) (all : ∀ i ∈ is, (count i).isSome = true) :
    ∃ t, runInstrs is s = .next t ∧ own t = move^[(is.filterMap count).sum] (own s) ∧ other t = other s := by
  induction is generalizing s with
  | nil => exact ⟨s, rfl, rfl, rfl⟩
  | cons i is ih =>
    obtain ⟨first, rest⟩ := List.forall_mem_cons.mp all
    obtain ⟨k, hk⟩ := Option.isSome_iff_exists.mp first
    obtain ⟨t, run, moved, kept⟩ := one i k s hk
    obtain ⟨u, runs, moves, keeps⟩ := ih t rest
    refine ⟨u, (runInstrs_cons run).trans runs, ?_, keeps.trans kept⟩
    rw [List.filterMap_cons_some hk, List.sum_cons, Nat.add_comm, Function.iterate_add_apply, ← moved, moves]

theorem exec_of_count16 (i : Instr) (k : Nat) (s : State) (h : count16 i = some k) :
    ∃ t, exec i s = .next t ∧ t.l16 = step16^[k] s.l16 ∧ t.l31 = s.l31 := by
  obtain ⟨n, rfl⟩ | rfl | rfl := eq_of_count16 (Option.isSome_of_eq_some h) <;> cases h <;> exact ⟨_, rfl, rfl, rfl⟩

theorem exec_of_count31 (i : Instr) (k : Nat) (s : State) (h : count31 i = some k) :
    ∃ t, exec i s = .next t ∧ t.l31 = step31^[k] s.l31 ∧ t.l16 = s.l16 := by
  obtain ⟨n, rfl⟩ | rfl | rfl := eq_of_count31 (Option.isSome_of_eq_some h) <;> cases h <;> exact ⟨_, rfl, rfl, rfl⟩

/-- Settles O16: by induction on the list, the steps of one command after those of the others. -/
theorem advanceCountsAddUp : Obligations.AdvanceCountsAddUp :=
  ⟨runInstrs_counts exec_of_count16, runInstrs_counts exec_of_count31⟩

end Sys2Proof.Machine
end

section
/-! The host port (20_memory.md R52 to R55, section 3), the status bytes (10_state.md R34 to R36) and the reset
values. -/

namespace Sys2Proof.Machine

theorem State.hostReg_of_reservedWritable (s : State) {r : Byte} (h : reservedWritable r = true) :
    s.hostReg r = 0x00 := by
  have unnamed : r < Config.hostRoThreshold ∧ HReg.ofNumber? r = none := by
    revert r
    decide
  rw [State.hostReg, if_pos unnamed.1, unnamed.2]

theorem State.hostReg_of_readOnlyNumber (s : State) {r : Byte} (h : readOnlyNumber r = true) :
    s.hostReg r = s.readRO r :=
  if_neg (BitVec.not_lt.mpr (of_decide_eq_true h))

/-- Settles O18: the byte returned by what a host transaction can be. -/
theorem hostTransactionReturnsWhatStoodThere : Obligations.HostTransactionReturnsWhatStoodThere := by
  intro r d s t h
  cases xactNext_of_exec h with
  | cmd c n =>
    rw [c, n.hostRets]
    rfl
  | write reg _ c e => rw [e, c, State.hostReg_number, exchange_hostRets]
  | reserved c e => rw [e, s.hostReg_of_reservedWritable c, hostReturn_hostRets]
  | read c e => rw [e, s.hostReg_of_readOnlyNumber c, hostReturn_hostRets]

/-- A second identical exchange finds its own byte. -/
theorem exchange_exchange (reg : HReg) (d : Byte) (s : State) :
    exchange reg d (exchange reg d s) =
      { exchange reg d s with hostRets := (exchange reg d s).hostRets ++ [d] } := by
  have found : (s.h.set d reg).get reg = d := by rw [HostRegs.get_set, if_pos rfl]
  have stored : (s.h.set d reg).set d reg = s.h.set d reg := HostRegs.set_set ..
  rw [exchange, exchange_h, found, stored]
  rfl

/-- Settles O24: the exchange twice; and ADV16 1 twice. -/
theorem repeatedTransactions : Obligations.RepeatedTransactions := by
  refine ⟨fun reg d s n => ⟨exchange reg d s, ?_, ?_⟩, fun s => ⟨_, _, rfl, rfl, rfl⟩⟩
  · rw [decodeXact_number, exec_decodeExchange n]
  · rw [decodeXact_number, exec_decodeExchange n, exchange_exchange]

theorem CmdNext.get_of_ne_srst {d : Byte} {s t : State} (n : CmdNext d s t) (hd : d ≠ 0xFF) {reg : HReg}
    (hr : reg ≠ .cmd) : t.h.get reg = s.h.get reg := by
  have stored : t.h = s.h.set d .cmd := n.h_of_ne_srst hd
  rw [stored, HostRegs.get_set, if_neg hr]

/-- Settles O25: a TICK keeps the host registers, a host transaction other than SRST all but the one it exchanges. -/
theorem writableRegistersChangeOnlyByExchange : Obligations.WritableRegistersChangeOnlyByExchange := by
  intro s t reg h changed
  cases stepCase_of_next h with
  | waits _ e => exact absurd (e ▸ rfl) changed
  | powerOn es ev _ => exact .inr (.inr ⟨es, ev⟩)
  | tick es _ n =>
    have kept : t.h = s.h := by rw [n.engineOnly]
    exact absurd (by rw [kept]) changed
  | host r d es ev n =>
    cases n with
    | cmd c n =>
      subst c
      by_cases hd : d = 0xFF
      · exact .inr (.inl ⟨es, hd ▸ ev⟩)
      · by_cases hr : reg = .cmd
        · exact .inl ⟨d, es, hr ▸ ev⟩
        · exact absurd (n.get_of_ne_srst hd hr) changed
    | write own _ c e =>
      by_cases hr : reg = own
      · exact .inl ⟨d, es, hr ▸ c ▸ ev⟩
      · refine absurd ?_ changed
        rw [e, exchange_h, HostRegs.get_set, if_neg hr]
    | reserved _ e => exact absurd (e ▸ rfl) changed
    | read _ e => exact absurd (e ▸ rfl) changed

/-! The status bytes. -/

/-- STATE has its fields at their positions, whatever the handshake state and the reason. -/
theorem stateByte_fields (s : State) :
    s.stateByte.getLsbD 7 = s.busy ∧ s.stateByte.getLsbD 6 = false ∧ s.stateByte.getLsbD 3 = false ∧
    s.stateByte.extractLsb' 0 3 = s.st.code ∧ s.stateByte.extractLsb' 4 2 = s.reason.code := by
  have fields : ∀ (b : Bool) (r : BitVec 2) (c : BitVec 3), let v : Byte := BitVec.ofBool b ++ 0#1 ++ r ++ 0#1 ++ c
      v.getLsbD 7 = b ∧ v.getLsbD 6 = false ∧ v.getLsbD 3 = false ∧ v.extractLsb' 0 3 = c ∧
        v.extractLsb' 4 2 = r := by decide
  exact fields _ _ _

theorem flagsByte_fields (f : Flags) :
    f.byte.getLsbD 0 = f.errBusy ∧ f.byte.getLsbD 1 = f.errIllegal ∧ f.byte.getLsbD 2 = f.ready ∧
    f.byte.getLsbD 3 = f.readyValid ∧ f.byte.extractLsb' 4 4 = 0 := by
  have fields : ∀ a b c d : Bool,
      let v : Byte := 0#4 ++ BitVec.ofBool d ++ BitVec.ofBool c ++ BitVec.ofBool b ++ BitVec.ofBool a
      v.getLsbD 0 = a ∧ v.getLsbD 1 = b ∧ v.getLsbD 2 = c ∧ v.getLsbD 3 = d ∧ v.extractLsb' 4 4 = 0 := by decide
  exact fields _ _ _ _

theorem St.busy_eq (st : St) : st.busy = decide (st ∈ [St.seekIssued, .addrAccepted, .driveReady, .commandIssued]) := by
  cases st <;> rfl

/-- Settles O22: the fields of the two bytes, and the codes they hold. -/
theorem statusBytesHoldTheirFields : Obligations.StatusBytesHoldTheirFields := by
  intro s
  obtain ⟨busy, zero6, zero3, st, reason⟩ := stateByte_fields s
  refine ⟨busy.trans s.st.busy_eq, zero6, zero3, st.trans ?_, reason.trans ?_, flagsByte_fields s.flags⟩
  · cases s.st <;> rfl
  · cases s.reason <;> rfl

/-! The reset values. -/

theorem resetWith_seed31 (seed16 : Gen16) (seed31 : Gen31) : (HostRegs.resetWith seed16 seed31).seed31 = seed31 := by
  have low (x : BitVec 7) : (x.zeroExtend 8).extractLsb' 0 7 = x := by
    revert x
    decide
  rw [HostRegs.seed31]
  simp only [HostRegs.resetWith, low]
  exact gen31_bytes seed31

theorem zeroExtend_getLsbD_7 (x : BitVec 7) : (x.zeroExtend 8).getLsbD 7 = false := by
  revert x
  decide

/-- Settles O29: the fields of the reset state; a seed is what its staging bytes put together. -/
theorem resetLeavesTheSpecifiedValues : Obligations.ResetLeavesTheSpecifiedValues :=
  ⟨rfl, rfl, rfl, rfl, rfl, rfl, rfl, rfl, rfl, rfl, rfl, rfl, rfl, rfl, rfl, rfl, hostWord_halves _, rfl,
    resetWith_seed31 _ _, zeroExtend_getLsbD_7 _, rfl, rfl, rfl, rfl, rfl, rfl, rfl, rfl, rfl, rfl, rfl, rfl, rfl, rfl,
    rfl, rfl, rfl, rfl⟩

/-! A torn read. -/

/-- A stage with 255 failed polls behind it, of a controller whose next poll fails too, and the host about to read WCNT
byte by byte with a TICK between. -/
def tornRead : State :=
  { State.reset with
    st := .seekIssued, wcnt := 0x00FF, x := { Latches.reset with xt1 := 1000 }, replies := [.answer 0x00],
    events := [.host 0x8C 0x00, .tick, .host 0x8D 0x00] }

/-- Settles O60: the low byte before the TICK and the high byte after it. -/
theorem waitCounterCanTear : Obligations.WaitCounterCanTear :=
  ⟨tornRead, _, rfl, rfl, rfl, rfl, rfl, rfl⟩

end Sys2Proof.Machine
end

section
/-! Which commands raise and clear the sticky errors (60_exceptions.md, section 1), and which steps write the
generators, the latches and the reply registers (10_state.md, section 3). -/

namespace Sys2Proof.Machine

/-! The sticky errors. -/

/-- A CMD write of `d` is refused (43_control.md R143). -/
def refuses (d : Byte) (s : State) : Prop :=
  s.busy = true ∧ d ∈ ([0x40, 0x41, 0x42, 0x48, 0x50, 0x60] : List Byte)

/-- A CMD write of `d` clears the sticky errors: SRST, and an ACK that is not refused. -/
def clearsErrors (d : Byte) (s : State) : Prop := d = 0xFF ∨ d = 0x48 ∧ s.busy = false

theorem not_refuses_of_not_busy {d : Byte} {s : State} (b : s.busy = false) : ¬ refuses d s := fun h =>
  absurd (h.1.symm.trans b) nofun

theorem not_refuses_of_notMem {d : Byte} {s : State} (c : d ∉ engineCodes) : ¬ refuses d s := fun h =>
  c (List.mem_append_left [0xFF] h.2)

theorem not_clearsErrors_of_ne {d : Byte} {s : State} (srst : d ≠ 0xFF) (ack : d ≠ 0x48) : ¬ clearsErrors d s := by
  rintro (h | ⟨h, _⟩)
  · exact srst h
  · exact ack h

theorem not_clearsErrors_of_notMem {d : Byte} {s : State} (c : d ∉ engineCodes) : ¬ clearsErrors d s :=
  not_clearsErrors_of_ne (ne_srst_of_notMem_engineCodes c) fun h => c (h ▸ by decide)

theorem not_clearsErrors_of_refuses {d : Byte} {s : State} (h : refuses d s) : ¬ clearsErrors d s := by
  obtain ⟨b, c⟩ := h
  rintro (rfl | ⟨_, nb⟩)
  · exact absurd c (by decide)
  · exact absurd (b.symm.trans nb) nofun

theorem reservedCode_eq_false_of_mem_engineCodes {d : Byte} (c : d ∈ engineCodes) : reservedCode d = false :=
  Bool.eq_false_of_not_eq_true fun h => reservedCode_notMem_engineCodes h c

/-- What a CMD write that completes does to the sticky errors. -/
inductive CmdErrors (d : Byte) (s t : State) : Prop where
  | keeps (x : ¬ refuses d s) (k : ¬ clearsErrors d s) (r : reservedCode d = false)
      (busy : t.flags.errBusy = s.flags.errBusy) (illegal : t.flags.errIllegal = s.flags.errIllegal)
  | refused (x : refuses d s) (k : ¬ clearsErrors d s) (r : reservedCode d = false) (e : t.flags = s.flags.raise .busy)
  | illegal (x : ¬ refuses d s) (k : ¬ clearsErrors d s) (r : reservedCode d = true)
      (e : t.flags = s.flags.raise .illegal)
  | clears (x : ¬ refuses d s) (k : clearsErrors d s) (r : reservedCode d = false)
      (busy : t.flags.errBusy = false) (illegal : t.flags.errIllegal = false)

theorem CmdNext.errors {d : Byte} {s t : State} (n : CmdNext d s t) : CmdErrors d s t := by
  have other (c : d ∉ engineCodes) (r : reservedCode d = false) (e : t.flags = s.flags) : CmdErrors d s t :=
    .keeps (not_refuses_of_notMem c) (not_clearsErrors_of_notMem c) r (e ▸ rfl) (e ▸ rfl)
  have accepted (b : s.busy = false) (c : d ∈ ([0x40, 0x41, 0x42, 0x50, 0x60] : List Byte))
      (busy : t.flags.errBusy = s.flags.errBusy) (illegal : t.flags.errIllegal = s.flags.errIllegal) :
      CmdErrors d s t := by
    have code : d ≠ 0xFF ∧ d ≠ 0x48 ∧ d ∈ engineCodes := by
      clear n other
      revert d
      decide
    obtain ⟨srst, ack, m⟩ := code
    exact .keeps (not_refuses_of_not_busy b) (not_clearsErrors_of_ne srst ack)
      (reservedCode_eq_false_of_mem_engineCodes m) busy illegal
  cases n with
  | nop c e => exact other (by rw [c]; decide) (by rw [c]; decide) (e ▸ rfl)
  | adv16 n c _ e =>
    exact other (c ▸ (advanceCode_notMem_engineCodes n).1)
      (c ▸ Bool.eq_false_of_not_eq_true (reservedCode_advanceCode n).1) (e ▸ rfl)
  | adv31 n c _ e =>
    exact other (c ▸ (advanceCode_notMem_engineCodes n).2)
      (c ▸ Bool.eq_false_of_not_eq_true (reservedCode_advanceCode n).2) (e ▸ rfl)
  | byte16 k c e => obtain ⟨rfl, _⟩ | ⟨rfl, _⟩ := c <;> exact other (by decide) (by decide) (e ▸ rfl)
  | byte31 k c e => obtain ⟨rfl, _⟩ | ⟨rfl, _⟩ := c <;> exact other (by decide) (by decide) (e ▸ rfl)
  | seed16 c e => exact other (by rw [c]; decide) (by rw [c]; decide) (e ▸ rfl)
  | seed31 c e => exact other (by rw [c]; decide) (by rw [c]; decide) (e ▸ rfl)
  | reserved c e =>
    have m := reservedCode_notMem_engineCodes c
    exact .illegal (not_refuses_of_notMem m) (not_clearsErrors_of_notMem m) c (e ▸ rfl)
  | refused c b e =>
    exact .refused ⟨b, c⟩ (not_clearsErrors_of_refuses ⟨b, c⟩)
      (reservedCode_eq_false_of_mem_engineCodes (List.mem_append_left [0xFF] c)) (e ▸ rfl)
  | start op p q c b _ _ e =>
    exact accepted b (List.mem_append_left [0x50, 0x60] (startOp_mem c)) (e ▸ rfl) (e ▸ rfl)
  | readychk v w c b _ _ e => exact accepted b (by rw [c]; decide) (by rw [e]; rfl) (by rw [e]; rfl)
  | devx p c b _ e => exact accepted b (by rw [c]; decide) (e ▸ rfl) (e ▸ rfl)
  | ack c b e =>
    exact .clears (not_refuses_of_not_busy b) (.inr ⟨c, b⟩) (by rw [c]; decide) (e ▸ rfl) (e ▸ rfl)
  | srst c e =>
    refine .clears (fun h => absurd h.2 ?_) (.inl c) (by rw [c]; decide) (e ▸ rfl) (e ▸ rfl)
    rw [c]
    decide

theorem CmdErrors.errBusy_iff {d : Byte} {s t : State} (n : CmdErrors d s t) :
    t.flags.errBusy = true ↔ refuses d s ∨ (s.flags.errBusy = true ∧ ¬ clearsErrors d s) := by
  cases n with
  | keeps x k _ busy _ => simp [x, k, busy]
  | refused x _ _ e => simp [x, e, Flags.raise]
  | illegal x k _ e => simp [x, k, e, Flags.raise]
  | clears x k _ busy _ => simp [x, k, busy]

theorem CmdErrors.errIllegal_iff {d : Byte} {s t : State} (n : CmdErrors d s t) :
    t.flags.errIllegal = true ↔ reservedCode d = true ∨ (s.flags.errIllegal = true ∧ ¬ clearsErrors d s) := by
  cases n with
  | keeps _ k r _ illegal => simp [r, k, illegal]
  | refused _ k r e => simp [r, k, e, Flags.raise]
  | illegal _ _ r e => simp [r, e, Flags.raise]
  | clears _ k r _ illegal => simp [r, k, illegal]

/-- READY and READY_VALID are written by READYCHK and by a reset alone. -/
theorem CmdNext.ready {d : Byte} {s t : State} (n : CmdNext d s t) (check : d ≠ 0x50) (reset : d ≠ 0xFF) :
    t.flags.ready = s.flags.ready ∧ t.flags.readyValid = s.flags.readyValid := by
  cases n
  case readychk c _ _ _ _ => exact absurd c check
  case srst c _ => exact absurd c reset
  all_goals
    subst t
    exact ⟨rfl, rfl⟩

/-- A TICK and the host transactions that are no CMD write keep FLAGS. -/
theorem TickCase.flags {s t : State} (n : TickCase s t) : t.flags = s.flags := by rw [n.engineOnly]

theorem XactNext.flags_of_ne {r d : Byte} {s t : State} (n : XactNext r d s t) (hr : r ≠ 0x00) : t.flags = s.flags := by
  cases n with
  | cmd c _ => exact absurd c hr
  | write _ _ _ e | reserved _ e | read _ e => exact e ▸ rfl

/-- Settles O31: a CMD write by what it does to the sticky errors; a power-on reset clears them, every other step keeps
FLAGS. -/
theorem stickyFlagsHaveTheirOnlyCauses : Obligations.StickyFlagsHaveTheirOnlyCauses := by
  intro s t h wrote cleared
  cases stepCase_of_next h with
  | waits ev e =>
    have none (d : Byte) : ¬ wrote d := by simp [wrote, ev]
    simp [cleared, none, ev, e]
  | powerOn es ev e =>
    have none (d : Byte) : ¬ wrote d := by simp [wrote, ev]
    simp [cleared, none, ev, e]
  | tick es ev n =>
    have none (d : Byte) : ¬ wrote d := by simp [wrote, ev]
    simp [cleared, none, ev, n.flags]
  | host r d es ev n =>
    have written (c : Byte) : wrote c ↔ r = 0x00 ∧ d = c := by simp [wrote, ev]
    by_cases hr : r = 0x00
    · subst hr
      have command := n.cmdNext
      have code (c : Byte) : wrote c ↔ d = c := (written c).trans (and_iff_right rfl)
      have refuse : (s.busy = true ∧ (wrote 0x40 ∨ wrote 0x41 ∨ wrote 0x42 ∨ wrote 0x48 ∨ wrote 0x50 ∨ wrote 0x60)) ↔
          refuses d s := by
        simp only [code, refuses, List.mem_cons, List.not_mem_nil, or_false]
      have clear : cleared ↔ clearsErrors d s := by
        simp only [cleared, code, clearsErrors, ev, List.cons.injEq, reduceCtorEq, false_and, exists_const, false_or]
      have reserved : (∃ c, reservedCode c = true ∧ wrote c) ↔ reservedCode d = true := by
        simp only [code, exists_eq_right']
      rw [refuse, clear, reserved]
      refine ⟨command.errors.errBusy_iff, command.errors.errIllegal_iff, fun no => ?_⟩
      exact command.ready (fun c => no (.inl ((code _).mpr c))) (fun c => no (.inr (.inl ((code _).mpr c))))
    · have none (d : Byte) : ¬ wrote d := fun w => hr ((written d).mp w).1
      simp [cleared, none, ev, n.flags_of_ne hr]

/-! The registers that few steps write. -/

theorem extractLsb'_advanceCode (g : BitVec 4) (n : BitVec 5) : (advanceCode g n).extractLsb' 4 4 = g :=
  codeGroup_append g _

/-- The CMD writes that change a generator or OUT. -/
theorem CmdNext.generators {d : Byte} {s t : State} (n : CmdNext d s t) :
    (t.l16 ≠ s.l16 → (d.extractLsb' 4 4 = 0x1 ∨ d = 0x30 ∨ d = 0x31 ∨ d = 0x38) ∨ d = 0xFF) ∧
    (t.l31 ≠ s.l31 → (d.extractLsb' 4 4 = 0x2 ∨ d = 0x32 ∨ d = 0x33 ∨ d = 0x39) ∨ d = 0xFF) ∧
    (t.out ≠ s.out → (d = 0x30 ∨ d = 0x31 ∨ d = 0x32 ∨ d = 0x33) ∨ d = 0xFF) := by
  have same {α : Type} {a : α} {P : Prop} (ne : a ≠ a) : P := absurd rfl ne
  cases n
  case adv16 n c _ e =>
    subst e
    exact ⟨fun _ => .inl (.inl (c ▸ extractLsb'_advanceCode _ n)), same, same⟩
  case adv31 n c _ e =>
    subst e
    exact ⟨same, fun _ => .inl (.inl (c ▸ extractLsb'_advanceCode _ n)), same⟩
  case byte16 k c e =>
    subst e
    obtain ⟨rfl, -⟩ | ⟨rfl, -⟩ := c <;> exact ⟨fun _ => by decide, same, fun _ => by decide⟩
  case byte31 k c e =>
    subst e
    obtain ⟨rfl, -⟩ | ⟨rfl, -⟩ := c <;> exact ⟨same, fun _ => by decide, fun _ => by decide⟩
  case seed16 c e =>
    subst e c
    exact ⟨fun _ => by decide, same, same⟩
  case seed31 c e =>
    subst e c
    exact ⟨same, fun _ => by decide, same⟩
  case srst c _ => exact ⟨fun _ => .inr c, fun _ => .inr c, fun _ => .inr c⟩
  all_goals
    subst t
    exact ⟨same, same, same⟩

/-- The host transactions that are no CMD write keep everything but a host register and the returned bytes. -/
theorem XactNext.eq_of_ne {r d : Byte} {s t : State} (n : XactNext r d s t) (hr : r ≠ 0x00) :
    t = { s with h := t.h, hostRets := t.hostRets } := by
  cases n with
  | cmd c _ => exact absurd c hr
  | write _ _ _ e | reserved _ e | read _ e => exact e ▸ rfl

/-- Settles O51: of the steps only a power-on reset and a CMD write can write the three registers. -/
theorem generatorsChangeOnlyByTheirCommands : Obligations.GeneratorsChangeOnlyByTheirCommands := by
  intro s t h wrote
  cases stepCase_of_next h with
  | waits _ e =>
    subst e
    exact ⟨absurd rfl, absurd rfl, absurd rfl⟩
  | powerOn es ev _ => exact ⟨fun _ => .inl ⟨es, ev⟩, fun _ => .inl ⟨es, ev⟩, fun _ => .inl ⟨es, ev⟩⟩
  | tick es _ n =>
    rw [n.engineOnly]
    exact ⟨absurd rfl, absurd rfl, absurd rfl⟩
  | host r d es ev n =>
    by_cases hr : r = 0x00
    · subst hr
      obtain ⟨l16, l31, out⟩ := n.cmdNext.generators
      exact ⟨fun c => .inr ⟨d, es, ev, l16 c⟩, fun c => .inr ⟨d, es, ev, l31 c⟩, fun c => .inr ⟨d, es, ev, out c⟩⟩
    · rw [n.eq_of_ne hr]
      exact ⟨absurd rfl, absurd rfl, absurd rfl⟩

/-- The CMD writes that change the latches or a reply register. -/
theorem CmdNext.latches {d : Byte} {s t : State} (n : CmdNext d s t) :
    (t.x ≠ s.x → d = 0xFF ∨ s.busy = false ∧ (d = 0x40 ∨ d = 0x41 ∨ d = 0x42)) ∧
    (t.devPrev ≠ s.devPrev → d = 0xFF ∨ s.busy = false ∧ d = 0x60) ∧
    (t.lastS1 ≠ s.lastS1 ∨ t.lastS2 ≠ s.lastS2 → d = 0xFF ∨ s.busy = false ∧ d = 0x50) := by
  have same {α : Type} {a : α} {P : Prop} (ne : a ≠ a) : P := absurd rfl ne
  cases n
  case start op _ _ c b _ _ e =>
    subst e
    have codes := startOp_mem c
    simp only [List.mem_cons, List.not_mem_nil, or_false] at codes
    exact ⟨fun _ => .inr ⟨b, codes⟩, same, fun ne => ne.elim same same⟩
  case readychk c b _ _ e =>
    subst e
    exact ⟨same, same, fun _ => .inr ⟨b, c⟩⟩
  case devx c b _ e =>
    subst e
    exact ⟨same, fun _ => .inr ⟨b, c⟩, fun ne => ne.elim same same⟩
  case srst c _ => exact ⟨fun _ => .inl c, fun _ => .inl c, fun _ => .inl c⟩
  all_goals
    subst t
    exact ⟨same, same, fun ne => ne.elim same same⟩

theorem polled_lastS1_of_ne {s : State} (h : s.st ≠ .seekIssued) (v : Byte) : (polled v s).lastS1 = s.lastS1 := by
  rw [polled_of_ne h]
  rfl

theorem polled_lastS2_of_seekIssued {s : State} (h : s.st = .seekIssued) (v : Byte) :
    (polled v s).lastS2 = s.lastS2 := by
  rw [polled_of_seekIssued h]
  rfl

@[simp] theorem pollSucceeded_lastS1 (s : State) : (pollSucceeded s).lastS1 = s.lastS1 := by
  unfold pollSucceeded
  cases s.st <;> rfl

@[simp] theorem pollSucceeded_lastS2 (s : State) : (pollSucceeded s).lastS2 = s.lastS2 := by
  unfold pollSucceeded
  cases s.st <;> rfl

/-- What a TICK records: nothing, or the status byte of the poll of its stage. -/
theorem TickCase.recorded {s t : State} (n : TickCase s t) :
    (t.lastS1 = s.lastS1 ∧ t.lastS2 = s.lastS2) ∨
    ∃ v, s.st.waits = true ∧ t.lastS1 = (polled v s).lastS1 ∧ t.lastS2 = (polled v s).lastS2 := by
  cases n with
  | rests _ e | seekEnds _ _ e | issues _ _ _ _ _ _ _ _ e => exact .inl (e ▸ ⟨rfl, rfl⟩)
  | succeeds v w _ _ e => exact .inr ⟨v, w, e ▸ pollSucceeded_lastS1 _, e ▸ pollSucceeded_lastS2 _⟩
  | counts v w _ _ _ e | timesOut v _ w _ _ _ _ e => exact .inr ⟨v, w, e ▸ rfl, e ▸ rfl⟩

theorem TickCase.seekIssued_of_lastS1 {s t : State} (n : TickCase s t) (changed : t.lastS1 ≠ s.lastS1) :
    s.st = .seekIssued := by
  obtain ⟨same, -⟩ | ⟨v, -, read, -⟩ := n.recorded
  · exact absurd same changed
  · by_contra h
    exact changed (read.trans (polled_lastS1_of_ne h v))

theorem TickCase.stage_of_lastS2 {s t : State} (n : TickCase s t) (changed : t.lastS2 ≠ s.lastS2) :
    s.st = .addrAccepted ∨ s.st = .commandIssued := by
  obtain ⟨-, same⟩ | ⟨v, w, -, read⟩ := n.recorded
  · exact absurd same changed
  · cases st : s.st with
    | seekIssued => exact absurd (read.trans (polled_lastS2_of_seekIssued st v)) changed
    | addrAccepted => exact .inl rfl
    | commandIssued => exact .inr rfl
    | idle | driveReady | done | aborted =>
      rw [st] at w
      cases w

/-- Settles O52: a CMD write by its case, a TICK by what it records; no other step but a reset writes the registers. -/
theorem latchesAndReplyRegistersChangeOnlyByTheirEvents :
    Obligations.LatchesAndReplyRegistersChangeOnlyByTheirEvents := by
  intro s t h reset wrote ticked
  cases stepCase_of_next h with
  | waits _ e =>
    subst e
    exact ⟨absurd rfl, absurd rfl, absurd rfl, absurd rfl⟩
  | powerOn es ev _ =>
    have r : reset := .inl ⟨es, ev⟩
    exact ⟨fun _ => .inl r, fun _ => .inl r, fun _ => .inl r, fun _ => .inl r⟩
  | tick es ev n =>
    have prev : t.devPrev = s.devPrev := by rw [n.engineOnly]
    exact ⟨absurd n.engineOnly.x, absurd prev, fun c => .inr (.inr ⟨⟨es, ev⟩, n.seekIssued_of_lastS1 c⟩),
      fun c => .inr (.inr ⟨⟨es, ev⟩, n.stage_of_lastS2 c⟩)⟩
  | host r d es ev n =>
    by_cases hr : r = 0x00
    · subst hr
      obtain ⟨latches, prev, replies⟩ := n.cmdNext.latches
      have hReset (c : d = 0xFF) : reset := .inr ⟨es, c ▸ ev⟩
      have hWrote {c : Byte} (b : s.busy = false) (k : d = c) : wrote c := ⟨b, es, k ▸ ev⟩
      have checked (c : t.lastS1 ≠ s.lastS1 ∨ t.lastS2 ≠ s.lastS2) : reset ∨ wrote 0x50 :=
        (replies c).imp hReset fun k => hWrote k.1 k.2
      refine ⟨fun c => (latches c).imp hReset fun ⟨b, k⟩ => k.imp (hWrote b) (Or.imp (hWrote b) (hWrote b)),
        fun c => (prev c).imp hReset fun k => hWrote k.1 k.2, fun c => ?_, fun c => ?_⟩
      · exact (checked (.inl c)).imp_right .inl
      · exact (checked (.inr c)).imp_right .inl
    · rw [n.eq_of_ne hr]
      exact ⟨absurd rfl, absurd rfl, absurd rfl, absurd rfl⟩

end Sys2Proof.Machine
end

section
/-! What the handshake engine reads (20_memory.md, section 5; 70_reset_and_hazards.md, section 3): a TICK is a function
of the engine and the device port alone, and the bystanders leave both as they are. -/

namespace Sys2Proof.Machine

/-! The cases of a TICK are all that it can do, and each of them happens. -/

theorem tick_of_tickCase {s t : State} (n : TickCase s t) : tick s = .next t := by
  cases n with
  | rests h e =>
    rw [e]
    exact tick_of_rests h
  | succeeds v w r a e =>
    obtain ⟨success, -, -⟩ := tick_of_poll rfl w r
    exact e ▸ success a
  | counts v w r a b e =>
    obtain ⟨-, failure, -⟩ := tick_of_poll rfl w r
    exact e ▸ failure a b
  | timesOut v p w r a b c e =>
    rw [tick_of_waits w, devRead, devXact_of_reply r, a, if_neg nofun]
    refine failedPoll_eq_next.mpr (.inr ⟨by rwa [polled_wcnt], abort_eq_next.mpr ⟨p, ?_, ?_⟩⟩)
    · exact (controllerReply_polled v s 0 _ _).trans c
    · rw [e, polled_wcnt]
  | seekEnds h o e =>
    rw [tick_of_driveReady h, issueCommand, if_pos o, e]
  | issues p q u h o a b c e =>
    rw [tick_of_driveReady h, issueCommand, if_neg o]
    refine devWrite_eq_next.mpr ⟨p, a, devWrite_eq_next.mpr ⟨q, ?_, devWrite_eq_next.mpr ⟨u, ?_, by rw [e]; rfl⟩⟩⟩
    · rwa [controllerReply_recordXact]
    · rwa [controllerReply_recordXact, controllerReply_recordXact]

/-- `u` with the handshake engine and the device port `v`. -/
def State.withEngine (u : State) (v : EngineView) : State :=
  { u with
    st := v.st, reason := v.reason, wcnt := v.wcnt, x := v.x, lastS1 := v.lastS1, lastS2 := v.lastS2,
    replies := v.replies, draws := v.draws, devLog := v.devLog }

@[simp] theorem State.withEngine_engine (u : State) (v : EngineView) : (u.withEngine v).engine = v := rfl

theorem State.withEngine_of_engine {u s : State} (h : u.engine = s.engine) : u.withEngine s.engine = u := by
  rw [← h]
  rfl

theorem polled_withEngine (u s : State) (v : Byte) :
    polled v (u.withEngine s.engine) = u.withEngine (polled v s).engine := by
  by_cases h : s.st = .seekIssued
  · rw [polled_of_seekIssued h, polled_of_seekIssued (by exact h)]
    rfl
  · rw [polled_of_ne h, polled_of_ne (by exact h)]
    rfl

theorem pollSucceeded_withEngine (u s : State) :
    pollSucceeded (u.withEngine s.engine) = u.withEngine (pollSucceeded s).engine := by
  have st : (u.withEngine s.engine).st = s.st := rfl
  rw [pollSucceeded, pollSucceeded, st]
  cases s.st <;> rfl

/-- The same TICK from the same engine and port, whatever the rest of the state. -/
theorem TickCase.withEngine {s t : State} (n : TickCase s t) (u : State) :
    TickCase (u.withEngine s.engine) (u.withEngine t.engine) := by
  cases n with
  | rests h e => exact .rests h (e ▸ rfl)
  | succeeds v w r a e =>
    exact .succeeds v w r a (by rw [e, polled_withEngine, pollSucceeded_withEngine])
  | counts v w r a b e =>
    exact .counts v w r a b (by rw [e, polled_withEngine]; rfl)
  | timesOut v p w r a b c e =>
    exact .timesOut v p w r a b c (by rw [e, polled_withEngine]; rfl)
  | seekEnds h o e => exact .seekEnds h o (e ▸ rfl)
  | issues p q v h o a b c e => exact .issues p q v h o a b c (e ▸ rfl)

theorem tick_of_engine {s t u : State} (h : tick s = .next t) (same : u.engine = s.engine) :
    tick u = .next (u.withEngine t.engine) := by
  have n := (tickCase_of_next h).withEngine u
  rw [State.withEngine_of_engine same] at n
  exact tick_of_tickCase n

theorem EngineOnly.eq_withEngine {s t : State} (h : EngineOnly s t) : t = s.withEngine t.engine :=
  Eq.trans h (by simp only [State.withEngine, State.engine, h.x])

/-- Settles O54: the engine does not hold the host registers, and a TICK writes nothing but the engine. -/
theorem tickReadsNoHostRegister : Obligations.TickReadsNoHostRegister := by
  intro s t h run
  have only := (tickCase_of_next run).engineOnly.eq_withEngine
  have result : ({ s with h := h } : State).withEngine t.engine = { t with h := h } :=
    (congrArg (fun v : State => { v with h := h }) only).symm
  exact result ▸ tick_of_engine run rfl

/-! Runs over a list of events. -/

theorem CmdNext.events {d : Byte} {s t : State} (n : CmdNext d s t) : t.events = s.events := by
  cases n <;> subst t <;> rfl

theorem XactNext.events {r d : Byte} {s t : State} (n : XactNext r d s t) : t.events = s.events := by
  cases n with
  | cmd _ n => exact n.events
  | write _ _ _ e | reserved _ e | read _ e => exact e ▸ rfl

/-- A step takes the first event and no other. -/
theorem events_of_step {s t : State} {e : Event} {es : List Event} (h : step s = .next t) (ev : s.events = e :: es) :
    t.events = es := by
  cases stepCase_of_next h with
  | waits none _ => rw [none] at ev; cases ev
  | host _ _ _ ev' n =>
    rw [ev] at ev'
    cases ev'
    exact n.events
  | tick _ ev' n =>
    rw [ev] at ev'
    cases ev'
    rw [n.engineOnly]
  | powerOn _ ev' c =>
    rw [ev] at ev'
    cases ev'
    exact c ▸ rfl

theorem step_tick_cons (s : State) (es : List Event) :
    step { s with events := .tick :: es } = tick { s with events := es } := rfl

theorem step_host_cons (s : State) (r d : Byte) (es : List Event) :
    step { s with events := .host r d :: es } = exec (decodeXact r d) { s with events := es } := rfl

theorem runEvents_cons {e : Event} {es : List Event} {s t : State} (h : step { s with events := e :: es } = .next t) :
    runEvents (e :: es) s = runEvents es t := by
  have left : t.events = es := events_of_step h rfl
  have whole : { t with events := es } = t := by rw [← left]
  rw [runEvents, runEvents, whole]
  exact core_run_of_step h

theorem runEvents_cons_eq_next {e : Event} {es : List Event} {s t : State} (h : runEvents (e :: es) s = .next t) :
    ∃ m, step { s with events := e :: es } = .next m ∧ runEvents es m = .next t := by
  cases first : step { s with events := e :: es } with
  | next m => exact ⟨m, rfl, (runEvents_cons first) ▸ h⟩
  | fault f =>
    rw [runEvents, List.length_cons, core_run_succ, first] at h
    cases h
  | refused q =>
    rw [runEvents, List.length_cons, core_run_succ, first] at h
    cases h

/-- A bystander that is no TICK leaves the engine and the device port as they are (43_control.md R143). -/
theorem engine_of_bystander {e : Event} {es : List Event} {s t : State} (b : e.bystander = true) (ne : e ≠ .tick)
    (h : step { s with events := e :: es } = .next t) : t.engine = s.engine := by
  cases e with
  | tick => exact absurd rfl ne
  | powerOn => cases b
  | host r d =>
    have n : XactNext r d { s with events := es } t := xactNext_of_exec ((step_host_cons ..).symm.trans h)
    by_cases hr : r = 0x00
    · subst hr
      have c : d ∉ engineCodes := by simpa [Event.bystander, engineCodes] using b
      cases n.cmdNext.engine with
      | keeps _ _ e => exact e
      | starts m _ _ _ => exact absurd (List.mem_append_left [0x48, 0x50, 0x60, 0xFF] m) c
      | acknowledges m _ _ _ => exact absurd (m ▸ by decide) c
      | usesPort m _ _ _ =>
        exact absurd (List.mem_append_right [0x40, 0x41, 0x42, 0x48] (List.mem_append_left [0xFF] m)) c
      | resets m _ _ => exact absurd (m ▸ by decide) c
    · exact n.engine_of_ne hr

/-- The TICKs alone, from any state with the same engine, end in the same engine. -/
theorem runEvents_ticks {es : List Event} {s s' t : State} (all : ∀ e ∈ es, e.bystander = true)
    (run : runEvents es s = .next t) (same : s'.engine = s.engine) :
    ∃ u, runEvents (es.filter fun e => e = .tick) s' = .next u ∧ u.engine = t.engine := by
  induction es generalizing s s' with
  | nil =>
    cases run
    exact ⟨_, rfl, same⟩
  | cons e es ih =>
    obtain ⟨b, rest⟩ := List.forall_mem_cons.mp all
    obtain ⟨m, first, others⟩ := runEvents_cons_eq_next run
    by_cases ht : e = .tick
    · subst ht
      rw [List.filter_cons_of_pos (by rfl)]
      have ticked := tick_of_engine (u := { s' with events := es.filter fun e => e = .tick })
        ((step_tick_cons ..).symm.trans first) same
      obtain ⟨u, runs, engine⟩ := ih rest others (State.withEngine_engine _ m.engine)
      exact ⟨u, (runEvents_cons ((step_tick_cons ..).trans ticked)).trans runs, engine⟩
    · rw [List.filter_cons_of_neg (by simpa using ht)]
      exact ih rest others (same.trans (engine_of_bystander b ht first).symm)

/-- Settles O55: by induction on the events, with the two runs in states of the same engine. -/
theorem bystandersDoNotDisturbTheHandshake : Obligations.BystandersDoNotDisturbTheHandshake := fun _ _ _ all run =>
  runEvents_ticks all run rfl

end Sys2Proof.Machine
end

section
/-! The device port (20_memory.md, sections 4 and 5; 42_device_shim.md, section 1): what a step appends to the device
transactions, and when it completes. -/

namespace Sys2Proof.Machine

/-! The device transactions of a step. -/

/-- From `s` to `t` the block has issued the device transactions `new`, in order, each with the controller's answer. -/
structure Issues (new : List DevXact) (s t : State) : Prop where
  log : t.devLog = s.devLog ++ new
  draws : t.draws = s.draws + new.length
  replies : t.replies = s.replies.drop new.length
  answered : ∀ k (e : DevXact), new[k]? = some e → controllerReply s k e.reg e.data = some e.reply

theorem Issues.none {s t : State} (log : t.devLog = s.devLog) (draws : t.draws = s.draws)
    (replies : t.replies = s.replies) : Issues [] s t where
  log := log.trans (List.append_nil _).symm
  draws := draws
  replies := replies
  answered _ _ h := by cases h

theorem Issues.none_of_engine {s t : State} (h : t.engine = s.engine) : Issues [] s t :=
  .none (congrArg EngineView.devLog h) (congrArg EngineView.draws h) (congrArg EngineView.replies h)

/-- One device transaction more, the controller having answered `p`. -/
theorem Issues.record {new : List DevXact} {s t u : State} (h : Issues new s t) {r d p : Byte}
    (a : controllerReply s new.length r d = some p) (log : u.devLog = (recordXact r d p t).devLog)
    (draws : u.draws = (recordXact r d p t).draws) (replies : u.replies = (recordXact r d p t).replies) :
    Issues (new ++ [⟨r, d, p⟩]) s u where
  log := by rw [log, recordXact_devLog, h.log, List.append_assoc]
  draws := by rw [draws, recordXact_draws, h.draws, List.length_append, Nat.add_assoc, List.length_singleton]
  replies := by rw [replies, recordXact_replies, h.replies, List.tail_drop, List.length_append, List.length_singleton]
  answered k e he := by
    rcases Nat.lt_trichotomy k new.length with hk | hk | hk
    · rw [List.getElem?_append_left hk] at he
      exact h.answered k e he
    · subst hk
      rw [List.getElem?_append_right le_rfl, Nat.sub_self] at he
      cases he
      exact a
    · rw [List.getElem?_eq_none (by rw [List.length_append, List.length_singleton]; omega)] at he
      cases he

/-- The first device transaction of a step. -/
theorem Issues.one {s t u : State} {r d p : Byte}
    (port : t.devLog = s.devLog ∧ t.draws = s.draws ∧ t.replies = s.replies)
    (a : controllerReply s 0 r d = some p) (log : u.devLog = (recordXact r d p t).devLog)
    (draws : u.draws = (recordXact r d p t).draws) (replies : u.replies = (recordXact r d p t).replies) :
    Issues [⟨r, d, p⟩] s u := by
  obtain ⟨log₀, draws₀, replies₀⟩ := port
  exact (Issues.none log₀ draws₀ replies₀).record a log draws replies

/-- The device transaction is one of the block's own sequences (42_device_shim.md R130 to R132). -/
abbrev DevXact.own (e : DevXact) : Prop :=
  e.reg ∈ ([0x00, 0x01, 0x02, 0x03, 0x80, 0x81] : List Byte) ∧
  (e.reg = 0x03 → e.data ∈ ([0x01, 0x11, 0x02, 0x04, 0x08] : List Byte)) ∧
  (e.reg = 0x80 ∨ e.reg = 0x81 → e.data = 0x00)

/-- The operand registers take any byte. -/
theorem own_operand {r : Byte} (h : r ∈ ([0x00, 0x01, 0x02] : List Byte)) (d p : Byte) : DevXact.own ⟨r, d, p⟩ := by
  have other : r ∈ ([0x00, 0x01, 0x02, 0x03, 0x80, 0x81] : List Byte) ∧ r ≠ 0x03 ∧ ¬ (r = 0x80 ∨ r = 0x81) := by
    revert r
    decide
  obtain ⟨six, command, status⟩ := other
  exact ⟨six, fun c => absurd c command, fun c => absurd c status⟩

theorem own_command {d : Byte} (h : d ∈ ([0x01, 0x11, 0x02, 0x04, 0x08] : List Byte)) (p : Byte) :
    DevXact.own ⟨0x03, d, p⟩ := by
  have register : (0x03 : Byte) ∈ ([0x00, 0x01, 0x02, 0x03, 0x80, 0x81] : List Byte) ∧
      ¬ ((0x03 : Byte) = 0x80 ∨ (0x03 : Byte) = 0x81) := by decide
  exact ⟨register.1, fun _ => h, fun c => absurd c register.2⟩

theorem own_poll (st : St) (p : Byte) : DevXact.own ⟨st.pollReg, 0x00, p⟩ := by
  have status : st.pollReg ∈ ([0x00, 0x01, 0x02, 0x03, 0x80, 0x81] : List Byte) ∧ st.pollReg ≠ 0x03 := by
    cases st <;> decide
  exact ⟨status.1, fun c => absurd c status.2, fun _ => rfl⟩

theorem seekByte_mem (restore : Bool) : seekByte restore ∈ ([0x01, 0x11, 0x02, 0x04, 0x08] : List Byte) := by
  cases restore <;> decide

theorem transferByte_mem (op : XOp) : transferByte op ∈ ([0x01, 0x11, 0x02, 0x04, 0x08] : List Byte) := by
  cases op <;> decide

/-- What a step issues: at most three device transactions, all of the block's own sequences if `P`. -/
def IssuesFew (P : Prop) (s t : State) : Prop :=
  ∃ new, Issues new s t ∧ new.length ≤ 3 ∧ (P → ∀ e ∈ new, e.own)

theorem IssuesFew.none_of_engine {P : Prop} {s t : State} (h : t.engine = s.engine) : IssuesFew P s t :=
  ⟨[], .none_of_engine h, by decide, nofun⟩

theorem Issues.polled {s : State} {v : Byte} (r : controllerReply s 0 s.st.pollReg 0x00 = some v) :
    Issues [⟨s.st.pollReg, 0x00, v⟩] s (polled v s) :=
  .one ⟨rfl, rfl, rfl⟩ r (polled_devLog v s) (polled_draws v s) (polled_replies v s)

theorem Issues.of_port {new : List DevXact} {s t u : State} (h : Issues new s t) (log : u.devLog = t.devLog)
    (draws : u.draws = t.draws) (replies : u.replies = t.replies) : Issues new s u :=
  ⟨log.trans h.log, draws.trans h.draws, replies.trans h.replies, h.answered⟩

@[simp] theorem pollSucceeded_devLog (s : State) : (pollSucceeded s).devLog = s.devLog := by
  unfold pollSucceeded
  cases s.st <;> rfl

@[simp] theorem pollSucceeded_draws (s : State) : (pollSucceeded s).draws = s.draws := by
  unfold pollSucceeded
  cases s.st <;> rfl

@[simp] theorem pollSucceeded_replies (s : State) : (pollSucceeded s).replies = s.replies := by
  unfold pollSucceeded
  cases s.st <;> rfl

theorem issues_pollSucceeded {s : State} {v : Byte} (r : controllerReply s 0 s.st.pollReg 0x00 = some v) :
    Issues [⟨s.st.pollReg, 0x00, v⟩] s (pollSucceeded (polled v s)) :=
  (Issues.polled r).of_port (pollSucceeded_devLog _) (pollSucceeded_draws _) (pollSucceeded_replies _)

theorem issues_counted {s : State} {v : Byte} (r : controllerReply s 0 s.st.pollReg 0x00 = some v) :
    Issues [⟨s.st.pollReg, 0x00, v⟩] s { polled v s with wcnt := s.wcnt + 1 } :=
  (Issues.polled r).of_port rfl rfl rfl

theorem issues_timedOut {s : State} {v p : Byte} (r : controllerReply s 0 s.st.pollReg 0x00 = some v)
    (c : controllerReply s 1 Config.devCommand Config.dcClear = some p) :
    Issues [⟨s.st.pollReg, 0x00, v⟩, ⟨Config.devCommand, Config.dcClear, p⟩] s (timedOut v p s) :=
  (Issues.polled r).record c rfl rfl rfl

/-- The three device transactions of `IssueCommand`. -/
theorem issues_command {s : State} {p q u : Byte} (a : controllerReply s 0 Config.devHead s.x.xhead = some p)
    (b : controllerReply s 1 Config.devSector s.x.xsec = some q)
    (c : controllerReply s 2 Config.devCommand (transferByte s.x.xop) = some u) :
    Issues [⟨Config.devHead, s.x.xhead, p⟩, ⟨Config.devSector, s.x.xsec, q⟩,
        ⟨Config.devCommand, transferByte s.x.xop, u⟩] s
      { recordXact Config.devCommand (transferByte s.x.xop) u
          (recordXact Config.devSector s.x.xsec q (recordXact Config.devHead s.x.xhead p s)) with
        st := .commandIssued, wcnt := 0 } :=
  ((Issues.one ⟨rfl, rfl, rfl⟩ a rfl rfl rfl).record b rfl rfl rfl).record c rfl rfl rfl

/-- The two device transactions of `StartXfer`. -/
theorem issues_start {op : XOp} {s : State} {p q code : Byte}
    (hp : controllerReply s 0 Config.devCyl s.h.cylLo = some p)
    (hq : controllerReply s 1 Config.devCommand (seekByte s.h.restore) = some q) :
    Issues [⟨Config.devCyl, s.h.cylLo, p⟩, ⟨Config.devCommand, seekByte s.h.restore, q⟩] s
      { recordXact Config.devCommand (seekByte s.h.restore) q
        (recordXact Config.devCyl s.h.cylLo p (latchStart op (storeCmd code s))) with st := .seekIssued } :=
  (Issues.one (s := s) (t := latchStart op (storeCmd code s)) ⟨rfl, rfl, rfl⟩ hp rfl rfl rfl).record hq rfl rfl rfl

theorem TickCase.issuesFew {s t : State} (n : TickCase s t) : IssuesFew True s t := by
  cases n with
  | rests _ e | seekEnds _ _ e => exact ⟨[], .none (e ▸ rfl) (e ▸ rfl) (e ▸ rfl), by decide, nofun⟩
  | succeeds v w r _ e =>
    exact ⟨_, e ▸ issues_pollSucceeded r, by simp, fun _ => List.forall_mem_singleton.mpr (own_poll _ v)⟩
  | counts v w r _ _ e =>
    exact ⟨_, e ▸ issues_counted r, by simp, fun _ => List.forall_mem_singleton.mpr (own_poll _ v)⟩
  | timesOut v p w r _ _ c e =>
    subst e
    refine ⟨_, issues_timedOut r c, by simp, fun _ => ?_⟩
    exact List.forall_mem_cons.mpr ⟨own_poll _ v, List.forall_mem_singleton.mpr (own_command (by decide) p)⟩
  | issues p q u h o a b c e =>
    refine ⟨_, e ▸ issues_command a b c, by simp, fun _ => ?_⟩
    exact List.forall_mem_cons.mpr ⟨own_operand (by decide) _ p, List.forall_mem_cons.mpr
      ⟨own_operand (by decide) _ q, List.forall_mem_singleton.mpr (own_command (transferByte_mem _) u)⟩⟩

theorem CmdNext.issuesFew {d : Byte} {s t : State} (n : CmdNext d s t) : IssuesFew (d ≠ 0x60) s t := by
  cases n
  case start op p q _ _ hp hq e =>
    exact ⟨_, e ▸ issues_start hp hq, by simp, fun _ =>
      List.forall_mem_cons.mpr
        ⟨own_operand (by decide) _ p, List.forall_mem_singleton.mpr (own_command (seekByte_mem _) q)⟩⟩
  case readychk v w _ _ hv hw e =>
    subst e
    exact ⟨_, (Issues.one ⟨rfl, rfl, rfl⟩ hv rfl rfl rfl).record hw rfl rfl rfl, by simp, fun _ =>
      List.forall_mem_cons.mpr ⟨own_poll .seekIssued v, List.forall_mem_singleton.mpr (own_poll .commandIssued w)⟩⟩
  case devx p c _ hp e =>
    subst e
    exact ⟨_, Issues.one ⟨rfl, rfl, rfl⟩ hp rfl rfl rfl, by simp, fun other => absurd c other⟩
  all_goals
    subst t
    exact ⟨[], .none rfl rfl rfl, by decide, nofun⟩

theorem XactNext.issuesFew {r d : Byte} {s t : State} (n : XactNext r d s t) :
    IssuesFew (¬ (r = 0x00 ∧ d = 0x60)) s t := by
  by_cases hr : r = 0x00
  · subst hr
    obtain ⟨new, issues, few, own⟩ := n.cmdNext.issuesFew
    exact ⟨new, issues, few, fun other => own fun c => other ⟨rfl, c⟩⟩
  · exact .none_of_engine (n.engine_of_ne hr)

/-- What a step issues does not depend on the events. -/
theorem Issues.of_events {new : List DevXact} {s t : State} {es : List Event}
    (h : Issues new { s with events := es } t) : Issues new s t :=
  ⟨h.log, h.draws, h.replies, h.answered⟩

theorem IssuesFew.of_events {P Q : Prop} {s t : State} {es : List Event} (h : IssuesFew P { s with events := es } t)
    (imp : Q → P) : IssuesFew Q s t := by
  obtain ⟨new, issues, few, own⟩ := h
  exact ⟨new, issues.of_events, few, fun q => own (imp q)⟩

/-- All that a step issues; only DEVX can issue what is not of the block's own sequences. -/
theorem step_issuesFew {s t : State} (h : step s = .next t) :
    IssuesFew (¬ ∃ es, s.events = .host 0x00 0x60 :: es) s t := by
  cases stepCase_of_next h with
  | waits _ e => exact .none_of_engine (e ▸ rfl)
  | powerOn es _ e => exact ⟨[], .none (e ▸ rfl) (e ▸ rfl) (e ▸ rfl), by decide, nofun⟩
  | tick es _ n => exact n.issuesFew.of_events fun _ => trivial
  | host r d es ev n =>
    refine n.issuesFew.of_events fun other c => other ⟨es, ?_⟩
    rw [ev, c.1, c.2]

/-- Settles O56: what a step issues, by its cases. -/
theorem deviceTransactionsAreAppendedInOrder : Obligations.DeviceTransactionsAreAppendedInOrder := by
  intro s t h
  obtain ⟨new, issues, few, -⟩ := step_issuesFew h
  exact ⟨new, issues.log, few, issues.draws, issues.replies, issues.answered⟩

/-- Settles O57: the appended device transactions are those that the step issues. -/
theorem ownSequencesUseOnlyTheSixRegisters : Obligations.OwnSequencesUseOnlyTheSixRegisters := by
  intro s t new h log other
  obtain ⟨issued, issues, -, own⟩ := step_issuesFew h
  rw [List.append_cancel_left (log.symm.trans issues.log)]
  exact own other

/-! When a step completes (R63). -/

/-- `r` is a completed step, or one stuck on a silence that `s` lists. -/
def Completes (s : State) (r : Result) : Prop :=
  (∃ t, r = .next t) ∨ (r = .fault .controllerSilent ∧ Reply.silent ∈ s.replies)

theorem completes_next (s t : State) : Completes s (.next t) := .inl ⟨t, rfl⟩

/-- A device transaction is stuck only on a listed silence. -/
theorem completes_devXact {r d : Byte} {s : State} {k : Byte → State → Result}
    (h : ∀ p, Completes (recordXact r d p s) (k p (recordXact r d p s))) : Completes s (devXact r d s k) := by
  cases a : controllerReply s 0 r d with
  | some p =>
    rw [devXact_of_reply a]
    exact (h p).imp_right fun stuck => ⟨stuck.1, List.mem_of_mem_tail stuck.2⟩
  | none =>
    rw [devXact_of_silent a]
    exact .inr ⟨rfl, List.mem_of_getElem? (controllerReply_eq_none.mp a)⟩

theorem completes_abort (reason : Reason) (s : State) : Completes s (abort reason s) :=
  completes_devXact fun _ => completes_next _ _

theorem completes_failedPoll (budget : Word) (reason : Reason) (s : State) :
    Completes s (failedPoll budget reason s) := by
  rw [failedPoll]
  dsimp only
  split
  · exact completes_abort reason { s with wcnt := s.wcnt + 1 }
  · exact completes_next _ _

theorem completes_tick (s : State) : Completes s (tick s) := by
  have poll (w : s.st.waits = true) : Completes s (tick s) := by
    rw [tick_of_waits w]
    refine completes_devXact fun v => ?_
    split
    · exact completes_next _ _
    · refine (completes_failedPoll (s.x.budget s.st) s.st.timeoutReason (polled v s)).imp_right fun stuck => ?_
      rwa [polled_replies] at stuck
  cases st : s.st with
  | seekIssued | addrAccepted | commandIssued => exact poll (by rw [st]; rfl)
  | idle => exact tick_of_rests (.inl st) ▸ completes_next _ _
  | done => exact tick_of_rests (.inr (.inl st)) ▸ completes_next _ _
  | aborted => exact tick_of_rests (.inr (.inr st)) ▸ completes_next _ _
  | driveReady =>
    rw [tick_of_driveReady st, issueCommand]
    split
    · exact completes_next _ _
    · exact completes_devXact fun _ => completes_devXact fun _ => completes_devXact fun _ => completes_next _ _

theorem completes_whenNotBusy {s : State} {k : State → Result} (h : Completes s (k s)) :
    Completes s (whenNotBusy s k) := by
  rw [whenNotBusy]
  split
  · exact completes_next _ _
  · exact h

theorem completes_startXfer (op : XOp) (s : State) : Completes s (startXfer op s) :=
  completes_devXact (s := latchStart op s) fun _ => completes_devXact fun _ => completes_next _ _

theorem completes_decodeCmd (d : Byte) (s : State) : Completes s (exec (decodeCmd d) s) := by
  have start (op : XOp) (code : Byte) : Completes s (whenNotBusy (storeCmd code s) (startXfer op)) :=
    completes_whenNotBusy (completes_startXfer op (storeCmd code s))
  cases cmdCase d with
  | xseek _ i => exact i ▸ start .seek 0x40
  | xread _ i => exact i ▸ start .read 0x41
  | xwrite _ i => exact i ▸ start .write 0x42
  | ack _ i =>
    rw [i, exec, execAck]
    exact completes_whenNotBusy (s := storeCmd 0x48 s) (completes_next _ _)
  | readychk _ i =>
    rw [i, exec, execReadychk]
    exact completes_whenNotBusy (s := storeCmd 0x50 s)
      (completes_devXact fun _ => completes_devXact fun _ => completes_next _ _)
  | devx _ i =>
    rw [i, exec, execDevx]
    exact completes_whenNotBusy (s := storeCmd 0x60 s) (completes_devXact fun _ => completes_next _ _)
  | nop _ i | byte16_8 _ i | byte16_16 _ i | byte31_8 _ i | byte31_16 _ i | seed16 _ i | seed31 _ i | srst _ i
  | reserved _ i | adv16 _ _ _ i | adv31 _ _ _ i =>
    rw [i]
    exact completes_next _ _

theorem completes_decodeXact (r d : Byte) (s : State) : Completes s (exec (decodeXact r d) s) := by
  cases xactCase r d with
  | cmd _ _ i => exact i ▸ completes_decodeCmd d s
  | write reg n _ i =>
    rw [i, exec_decodeExchange n]
    exact completes_next _ _
  | reserved _ i | read _ i =>
    rw [i]
    exact completes_next _ _

theorem completes_step (s : State) : Completes s (step s) := by
  cases ev : s.events with
  | nil => exact step_of_no_event ev ▸ completes_next _ _
  | cons e es =>
    cases e with
    | host r d => exact step_of_host ev ▸ completes_decodeXact r d { s with events := es }
    | tick => exact step_of_tick ev ▸ completes_tick { s with events := es }
    | powerOn => exact step_of_powerOn ev ▸ completes_next _ _

/-- A controller whose next listed reply is silence answers no device transaction. -/
theorem controllerReply_of_silent {s : State} {rs : List Reply} (h : s.replies = .silent :: rs) (r d : Byte) :
    controllerReply s 0 r d = none :=
  controllerReply_eq_none.mpr (by rw [h]; rfl)

theorem tick_of_silent {s : State} {rs : List Reply} (h : s.replies = .silent :: rs)
    (issuing : s.st.waits = true ∨ (s.st = .driveReady ∧ s.x.xop ≠ .seek)) : tick s = .fault .controllerSilent := by
  obtain w | ⟨st, o⟩ := issuing
  · rw [tick_of_waits w]
    exact devXact_of_silent (controllerReply_of_silent h _ _) _
  · rw [tick_of_driveReady st, issueCommand, if_neg o]
    exact devXact_of_silent (controllerReply_of_silent h _ _) _

theorem startXfer_of_silent {op : XOp} {s : State} {rs : List Reply} (h : s.replies = .silent :: rs) :
    startXfer op s = .fault .controllerSilent :=
  devXact_of_silent (s := latchStart op s) (controllerReply_of_silent (s := latchStart op s) h _ _) _

theorem exec_of_silent {i : Instr} {s : State} {rs : List Reply} (h : s.replies = .silent :: rs) (b : s.busy = false)
    (m : i ∈ [Instr.xseek, .xread, .xwrite, .readychk, .devx]) : exec i s = .fault .controllerSilent := by
  have stored (code : Byte) : (storeCmd code s).replies = .silent :: rs := h
  simp only [List.mem_cons, List.not_mem_nil, or_false] at m
  obtain rfl | rfl | rfl | rfl | rfl := m <;> rw [exec]
  · rw [execXseek, whenNotBusy_of_not_busy (by exact b), startXfer_of_silent (stored 0x40)]
  · rw [execXread, whenNotBusy_of_not_busy (by exact b), startXfer_of_silent (stored 0x41)]
  · rw [execXwrite, whenNotBusy_of_not_busy (by exact b), startXfer_of_silent (stored 0x42)]
  · rw [execReadychk, whenNotBusy_of_not_busy (by exact b)]
    exact devXact_of_silent (controllerReply_of_silent (stored 0x50) _ _) _
  · rw [execDevx, whenNotBusy_of_not_busy (by exact b)]
    exact devXact_of_silent (controllerReply_of_silent (stored 0x60) _ _) _

/-- Settles O58: every step completes but for a listed silence, which stops an issuing step on its first transaction. -/
theorem onlyASilentControllerStopsAStep : Obligations.OnlyASilentControllerStopsAStep := by
  refine ⟨fun s answers => ?_, fun s q h => ?_, fun s f h => ?_, fun s rs h => ⟨tick_of_silent h, fun b i m => ?_⟩⟩
  · exact (completes_step s).resolve_right fun stuck => answers stuck.2
  · obtain ⟨t, e⟩ | ⟨e, -⟩ := completes_step s <;> rw [e] at h <;> cases h
  · obtain ⟨t, e⟩ | ⟨e, silent⟩ := completes_step s <;> rw [e] at h <;> cases h
    exact ⟨rfl, silent⟩
  · exact exec_of_silent h b m

end Sys2Proof.Machine
end

section
/-! DONE and the controller's duty (d) (42_device_shim.md, section 4; 70_reset_and_hazards.md, section 3). -/

namespace Sys2Proof.Machine

/-- What a completion stage awaits is its in-progress flag clear. -/
theorem awaited_commandIssued (x : Latches) (v : Byte) : x.awaited .commandIssued v = !completionBit x.xop v := rfl

/-- In COMMAND_ISSUED the device transactions end with the command byte and polls of Status2 alone. -/
theorem devLog_of_portFits {s : State} (fits : s.portFits) (h : s.st = .commandIssued) :
    ∃ before c polls, s.devLog = before ++ c :: polls ∧ c.commands (transferByte s.x.xop) ∧
      ∀ e ∈ polls, e.reg = Config.devStatus2 := by
  obtain ⟨before, hsent⟩ := fits h
  obtain ⟨pre, rest, log, -, rest_sent⟩ := List.map_eq_append_iff.mp hsent.symm
  obtain ⟨c, polls, rfl, c_sent, polls_sent⟩ := List.map_eq_cons_iff.mp rest_sent
  refine ⟨pre, c, polls, log, ⟨congrArg Prod.fst c_sent, congrArg Prod.snd c_sent⟩, fun e he => ?_⟩
  have sent : e.sent ∈ List.replicate s.wcnt.toNat (Config.devStatus2, 0x00) := polls_sent ▸ List.mem_map_of_mem he
  exact congrArg Prod.fst (List.eq_of_mem_replicate sent)

/-- A TICK that leads from COMMAND_ISSUED to DONE has read the flag of its operation clear. -/
theorem TickCase.succeeds_of_done {s t : State} (n : TickCase s t) (h : s.st = .commandIssued) (ht : t.st = .done) :
    ∃ v, completionBit s.x.xop v = false ∧ t.devLog = s.devLog ++ [⟨Config.devStatus2, 0x00, v⟩] := by
  cases n with
  | rests r _ => rw [h] at r; obtain r | r | r := r <;> cases r
  | succeeds v _ _ a e =>
    rw [h, awaited_commandIssued, Bool.not_eq_true'] at a
    refine ⟨v, a, ?_⟩
    rw [e, pollSucceeded_devLog, polled_devLog, h]
    rfl
  | counts v _ _ _ _ e =>
    have st : t.st = s.st := e ▸ polled_st v s
    rw [st, h] at ht
    cases ht
  | timesOut _ _ _ _ _ _ _ e => rw [e] at ht; cases ht
  | seekEnds r _ _ => rw [h] at r; cases r
  | issues _ _ _ r _ _ _ _ _ => rw [h] at r; cases r

/-- Duty (d) for either operation: its flag reads 1 until it has ended. -/
theorem KeepsDuties.inProgress {log : List DevXact} {views : List DriveView} (duties : KeepsDuties log views) (op : XOp)
    {i k : Nat} {c e : DevXact} {f : DriveView} (later : i < k) (hc : log[i]? = some c)
    (command : c.commands (transferByte op)) (he : log[k]? = some e) (hf : views[k]? = some f)
    (status : e.reg = Config.devStatus2) (runs : i ∉ f.ended) : completionBit op e.reply = true := by
  cases op with
  | read => exact duties.readInProgress i k c e f later hc command he hf status runs
  | seek | write => exact duties.writeInProgress i k c e f later hc command he hf status runs

/-- If the last device transaction reads the flag of the operation `c` clear, the operation has ended by then. -/
theorem KeepsDuties.ended {before polls : List DevXact} {c e : DevXact} {views : List DriveView} {op : XOp}
    (duties : KeepsDuties (before ++ c :: (polls ++ [e])) views) (command : c.commands (transferByte op))
    (status : e.reg = Config.devStatus2) (clear : completionBit op e.reply = false) :
    ∃ f, views.getLast? = some f ∧ before.length ∈ f.ended := by
  have size : views.length = before.length + polls.length + 2 := by
    rw [duties.sameLength, List.length_append, List.length_cons, List.length_append, List.length_singleton]
    omega
  have position : views.length - 1 = before.length + (polls.length + 1) := by omega
  obtain ⟨f, hf⟩ : ∃ f, views[views.length - 1]? = some f :=
    ⟨_, List.getElem?_eq_getElem (by omega)⟩
  refine ⟨f, List.getLast?_eq_getElem?.trans hf, ?_⟩
  by_contra runs
  have first : (before ++ c :: (polls ++ [e]))[before.length]? = some c := by simp
  have last : (before ++ c :: (polls ++ [e]))[views.length - 1]? = some e := by
    rw [position]
    simp
  have flag := duties.inProgress op (by omega) first command last hf status runs
  exact absurd (flag.symm.trans clear) nofun

theorem transferByte_eq (op : XOp) : transferByte op = if op = .read then 0x02 else 0x04 := rfl

/-- A READ whose command byte has just been sent, of a controller that does not report it in progress. -/
def lateStart : State :=
  { State.reset with
    st := .commandIssued, x := { Latches.reset with xop := .read }, replies := [.answer 0x00],
    devLog := [⟨0x03, 0x02, 0x00⟩] }

theorem lateStart_inv : lateStart.Inv := by
  refine ⟨⟨reason_iff_of_ne rfl nofun, by decide, by decide, by decide, rfl⟩, fun _ => List.suffix_refl _⟩

/-- Settles O59: the log ends with the command byte and polls, the last of which duty (d) ties to that byte; a
controller that starts late shows the other side. -/
theorem doneOnlyAfterTheOperationEnded : Obligations.DoneOnlyAfterTheOperationEnded := by
  refine ⟨fun s t views fits run h ht duties => ?_,
    lateStart, _, [⟨true, true, []⟩, ⟨true, true, []⟩], lateStart_inv, rfl, rfl, rfl, rfl, by simp⟩
  obtain ⟨before, c, polls, log, command, all⟩ := devLog_of_portFits fits h
  obtain ⟨v, clear, appended⟩ := (tickCase_of_next run).succeeds_of_done h ht
  have whole : t.devLog = before ++ c :: (polls ++ [⟨Config.devStatus2, 0x00, v⟩]) := by
    rw [appended, log, List.append_assoc, List.cons_append]
  rw [whole] at duties ⊢
  obtain ⟨f, last, ended⟩ := duties.ended command rfl clear
  refine ⟨before.length, c, f, by simp, transferByte_eq _ ▸ command, fun k e later he => ?_, last, ended⟩
  have beyond : k = before.length + ((k - before.length - 1) + 1) := by omega
  rw [beyond, List.getElem?_append_right (by omega), Nat.add_sub_cancel_left, List.getElem?_cons_succ] at he
  obtain m | m := List.mem_append.mp (List.mem_of_getElem? he)
  · exact all e m
  · rw [List.mem_singleton.mp m]
    rfl

end Sys2Proof.Machine
end

section
/-! Runs of the handshake (41_handshake.md, sections 1 and 6): how many TICKs a transaction takes, and what it sends. -/

namespace Sys2Proof.Machine

/-! What a run leaves of the ports. -/

/-- From `s` to `t` the controller has been sent `new`; its answers from then on are those that follow. -/
structure Sends (new : List (Byte × Byte)) (s t : State) : Prop where
  sent : t.sent = s.sent ++ new
  reply : ∀ k r d, controllerReply t k r d = controllerReply s (new.length + k) r d

theorem Sends.none (s : State) : Sends [] s s where
  sent := (List.append_nil _).symm
  reply k r d := by rw [List.length_nil, Nat.zero_add]

theorem Sends.trans {a b : List (Byte × Byte)} {s t u : State} (h : Sends a s t) (k : Sends b t u) :
    Sends (a ++ b) s u where
  sent := by rw [k.sent, h.sent, List.append_assoc]
  reply j r d := by rw [k.reply, h.reply, List.length_append, Nat.add_assoc]

theorem Issues.sends {new : List DevXact} {s t : State} (h : Issues new s t) : Sends (new.map DevXact.sent) s t where
  sent := by rw [State.sent, h.log, List.map_append, State.sent]
  reply k r d := by
    rw [controllerReply, controllerReply, h.replies, h.draws, List.getElem?_drop, List.length_map, Nat.add_assoc]

theorem events_of_run {n : Nat} {s t : State} (h : Host.Core.run Sys2Proof.core n s = .next t) :
    t.events = s.events.drop n := by
  induction n generalizing s with
  | zero =>
    cases h
    rfl
  | succ n ih =>
    rw [core_run_succ] at h
    split at h
    · rename_i m first
      have left : m.events = s.events.tail := by
        cases ev : s.events with
        | nil =>
          rw [step_of_no_event ev] at first
          cases first
          exact ev
        | cons e es => exact events_of_step first ev
      rw [ih h, left, List.drop_tail]
    · cases h
    · cases h

/-- A run of `n` steps from `s` to `t`, busy before each of them, that keeps the latches and sends `new`. -/
structure BusyRun (n : Nat) (new : List (Byte × Byte)) (s t : State) : Prop where
  run : Host.Core.run Sys2Proof.core n s = .next t
  busy : ∀ m, m < n → ∃ u, Host.Core.run Sys2Proof.core m s = .next u ∧ u.busy = true
  latches : t.x = s.x
  sends : Sends new s t

theorem BusyRun.zero (s : State) : BusyRun 0 [] s s := ⟨rfl, nofun, rfl, .none s⟩

theorem BusyRun.trans {m n : Nat} {a b : List (Byte × Byte)} {s t u : State} (h : BusyRun m a s t)
    (k : BusyRun n b t u) : BusyRun (m + n) (a ++ b) s u where
  run := (core_run_add h.run).trans k.run
  busy j hj := by
    by_cases small : j < m
    · exact h.busy j small
    · obtain ⟨v, run, b⟩ := k.busy (j - m) (by omega)
      have split : j = m + (j - m) := by omega
      exact ⟨v, split ▸ (core_run_add h.run).trans run, b⟩
  latches := k.latches.trans h.latches
  sends := h.sends.trans k.sends

/-- After `n` TICKs the rest of the events is left. -/
theorem BusyRun.events {n : Nat} {new : List (Byte × Byte)} {s t : State} {es : List Event} (h : BusyRun n new s t)
    (ev : s.events = List.replicate n .tick ++ es) : t.events = es := by
  rw [events_of_run h.run, ev, List.drop_left' (List.length_replicate ..)]

/-- A TICK as a run of one step. -/
theorem busyRun_of_tickCase {s t : State} {es : List Event} {new : List DevXact} (b : s.busy = true)
    (ev : s.events = .tick :: es) (n : TickCase { s with events := es } t) (issues : Issues new s t) :
    BusyRun 1 (new.map DevXact.sent) s t where
  run := core_run_of_step ((step_of_tick ev).trans (tick_of_tickCase n))
  busy m hm := by
    have zero : m = 0 := by omega
    exact ⟨s, zero ▸ rfl, b⟩
  latches := n.engineOnly.x
  sends := issues.sends

/-! One TICK of a wait stage, for all three stages at once. -/

section
variable {s : State} {v : Byte} {es : List Event} (w : s.st.waits = true) (ev : s.events = .tick :: es)
  (r : controllerReply s 0 s.st.pollReg 0x00 = some v)
include w ev r

theorem stage_succeeds (a : s.x.awaited s.st v = true) :
    ∃ t, BusyRun 1 [(s.st.pollReg, 0x00)] s t ∧ t.st = s.st.afterPoll ∧ (s.st = .seekIssued → t.wcnt = 0) := by
  have issues := (issues_pollSucceeded (s := { s with events := es }) r).of_events
  refine ⟨_, busyRun_of_tickCase (busy_of_waits w) ev (.succeeds v w r a rfl) issues, ?_, fun st => ?_⟩
  · rw [pollSucceeded_st, polled_st]
  · rw [pollSucceeded_wcnt, polled_st, if_pos st]

theorem stage_counts (a : s.x.awaited s.st v = false) (b : s.wcnt + 1 ≠ s.x.budget s.st) :
    ∃ t, BusyRun 1 [(s.st.pollReg, 0x00)] s t ∧ t.st = s.st ∧ t.wcnt = s.wcnt + 1 := by
  have issues := (issues_counted (s := { s with events := es }) r).of_events
  exact ⟨_, busyRun_of_tickCase (busy_of_waits w) ev (.counts v w r a b rfl) issues, polled_st v _, rfl⟩

theorem stage_timesOut (a : s.x.awaited s.st v = false) (b : s.wcnt + 1 = s.x.budget s.st) {p : Byte}
    (c : controllerReply s 1 Config.devCommand Config.dcClear = some p) :
    ∃ t, BusyRun 1 [(s.st.pollReg, 0x00), (0x03, 0x08)] s t ∧ t.st = .aborted ∧ t.reason = s.st.timeoutReason ∧
      t.wcnt = s.x.budget s.st := by
  have issues := (issues_timedOut (s := { s with events := es }) r c).of_events
  exact ⟨_, busyRun_of_tickCase (busy_of_waits w) ev (.timesOut v p w r a b c rfl) issues, rfl, rfl, b⟩

end

/-! A whole wait stage. -/

theorem ticks_succ (k : Nat) (es : List Event) :
    List.replicate (k + 1) Event.tick ++ es = List.replicate k .tick ++ (.tick :: es) := by
  rw [List.replicate_succ', List.append_assoc, List.singleton_append]

/-- The answers at the end of a run that sent `k` polls are those from number `k` on. -/
theorem BusyRun.reply {n k : Nat} {e : Byte × Byte} {s t : State} (h : BusyRun n (List.replicate k e) s t) (j : Nat)
    (r d : Byte) : controllerReply t j r d = controllerReply s (k + j) r d := by
  rw [h.sends.reply, List.length_replicate]

/-- As long as WCNT stays below its budget the stage polls on. -/
theorem stage_fails {s : State} {es : List Event} {k : Nat} (w : s.st.waits = true)
    (ev : s.events = List.replicate k .tick ++ es) (room : s.wcnt.toNat + k < (s.x.budget s.st).toNat)
    (fails : ∀ j, j < k → ∃ v, controllerReply s j s.st.pollReg 0x00 = some v ∧ s.x.awaited s.st v = false) :
    ∃ t, BusyRun k (List.replicate k (s.st.pollReg, 0x00)) s t ∧ t.st = s.st ∧ t.wcnt.toNat = s.wcnt.toNat + k := by
  induction k generalizing es with
  | zero => exact ⟨s, .zero s, rfl, rfl⟩
  | succ k ih =>
    rw [ticks_succ] at ev
    obtain ⟨t, run, st, count⟩ := ih ev (by omega) fun j hj => fails j (by omega)
    obtain ⟨v, r, a⟩ := fails k (by omega)
    rw [← Nat.add_zero k, ← run.reply, ← st] at r
    rw [← run.latches, ← st] at a room
    obtain ⟨u, poll, st', count'⟩ := stage_counts (st ▸ w) (run.events ev) r a (by bv_omega)
    refine ⟨u, ?_, st'.trans st, ?_⟩
    · rw [List.replicate_succ', ← st]
      exact (st ▸ run).trans poll
    · rw [count']
      bv_omega

/-- After exactly its budget of failed polls the stage aborts. -/
theorem stage_aborts {s : State} {es : List Event} {n : Nat} (w : s.st.waits = true) (zero : s.wcnt = 0)
    (hn : n = (s.x.budget s.st).toNat) (pos : 0 < n) (ev : s.events = List.replicate n .tick ++ es)
    (fails : ∀ j, j < n → ∃ v, controllerReply s j s.st.pollReg 0x00 = some v ∧ s.x.awaited s.st v = false)
    {p : Byte} (clear : controllerReply s n 0x03 0x08 = some p) :
    ∃ t, BusyRun n (List.replicate n (s.st.pollReg, 0x00) ++ [(0x03, 0x08)]) s t ∧ t.st = .aborted ∧
      t.reason = s.st.timeoutReason ∧ t.wcnt = s.x.budget s.st := by
  obtain ⟨k, rfl⟩ : ∃ k, n = k + 1 := ⟨n - 1, by omega⟩
  rw [ticks_succ] at ev
  have start : s.wcnt.toNat = 0 := zero ▸ rfl
  obtain ⟨t, run, st, count⟩ := stage_fails w ev (by omega) fun j hj => fails j (by omega)
  obtain ⟨v, r, a⟩ := fails k (by omega)
  rw [← Nat.add_zero k, ← run.reply, ← st] at r
  rw [← run.reply] at clear
  rw [← run.latches, ← st] at a hn
  obtain ⟨u, poll, aborted, reason, budget⟩ := stage_timesOut (st ▸ w) (run.events ev) r a (by bv_omega) clear
  refine ⟨u, ?_, aborted, reason.trans (st ▸ rfl), budget.trans (by rw [run.latches, st])⟩
  rw [List.replicate_succ', List.append_assoc, ← st]
  exact (st ▸ run).trans poll

/-- A stage whose poll number `a` is the first to find what it awaits, and within its budget, succeeds on TICK `a`. -/
theorem stage_succeedsOn {s : State} {es : List Event} {a : Nat} (w : s.st.waits = true) (zero : s.wcnt = 0)
    (pos : 1 ≤ a) (within : a ≤ (s.x.budget s.st).toNat) (ev : s.events = List.replicate a .tick ++ es)
    (polls : ∀ j, j < a → ∃ v, controllerReply s j s.st.pollReg 0x00 = some v ∧
      s.x.awaited s.st v = decide (j + 1 = a)) :
    ∃ t, BusyRun a (List.replicate a (s.st.pollReg, 0x00)) s t ∧ t.st = s.st.afterPoll ∧
      (s.st = .seekIssued → t.wcnt = 0) := by
  obtain ⟨k, rfl⟩ : ∃ k, a = k + 1 := ⟨a - 1, by omega⟩
  rw [ticks_succ] at ev
  have start : s.wcnt.toNat = 0 := zero ▸ rfl
  obtain ⟨t, run, st, -⟩ := stage_fails w ev (by omega) fun j hj => by
    obtain ⟨v, r, a⟩ := polls j (by omega)
    exact ⟨v, r, a.trans (decide_eq_false (by omega))⟩
  obtain ⟨v, r, a⟩ := polls k (by omega)
  rw [← Nat.add_zero k, ← run.reply, ← st] at r
  rw [← run.latches, ← st, decide_eq_true rfl] at a
  obtain ⟨u, poll, next, count⟩ := stage_succeeds (st ▸ w) (run.events ev) r a
  refine ⟨u, ?_, next.trans (st ▸ rfl), fun seek => count (st.trans seek)⟩
  rw [List.replicate_succ', ← st]
  exact (st ▸ run).trans poll

/-- The first TICKs of several. -/
theorem ticks_split {k n : Nat} (h : k ≤ n) (es : List Event) :
    List.replicate n Event.tick ++ es = List.replicate k .tick ++ (List.replicate (n - k) .tick ++ es) := by
  rw [← List.append_assoc, List.replicate_append_replicate, Nat.add_sub_cancel' h]

theorem St.afterPoll_ne {st : St} (w : st.waits = true) : st.afterPoll ≠ st := by
  revert w
  cases st <;> decide

/-- Settles O46: a poll that succeeds leads on; the failed polls up to the budget, and then the timeout. -/
theorem stageTimesOutAfterExactlyItsBudget : Obligations.StageTimesOutAfterExactlyItsBudget := by
  refine ⟨fun s v w r a => ⟨_, tick_of_tickCase (.succeeds v w r a rfl), ?_, ?_, ?_⟩,
    fun s es n w zero hn pos ev fails clear => ⟨fun k hk => ?_, ?_⟩⟩
  · rw [pollSucceeded_st, polled_st]
    exact St.afterPoll_ne w
  · rw [pollSucceeded_st, polled_st]
    exact St.afterPoll_ne_aborted _
  · rw [pollSucceeded_reason, polled_reason]
  · have start : s.wcnt.toNat = 0 := zero ▸ rfl
    obtain ⟨t, run, st, count⟩ := stage_fails w (ev.trans (ticks_split hk.le es)) (by omega)
      fun j hj => fails j (by omega)
    exact ⟨t, run.run, st, by omega, run.sends.sent⟩
  · obtain ⟨p, clear⟩ := clear
    obtain ⟨t, run, aborted, reason, count⟩ := stage_aborts w zero hn pos ev fails clear
    refine ⟨t, run.run, aborted, reason, count, run.latches, run.events ev, ?_⟩
    rw [run.sends.sent, List.append_assoc]

end Sys2Proof.Machine
end

section
/-! The transactions of 41_handshake.md, section 6: the start command and then nothing but TICKs. -/

namespace Sys2Proof.Machine

/-! The start command and the TICK of DRIVE_READY. -/

theorem decodeXact_encode {i : Instr} (wf : i.wellFormed = true) :
    decodeXact (regByte (encode i)) (dataByte (encode i)) = i := decodeWord_encode wf

/-- The start command `i` has the operation `op` and the code `code` (R110 to R112). -/
abbrev StartCommand (i : Instr) (op : XOp) (code : Byte) : Prop :=
  (i, op, code) ∈ [(Instr.xseek, XOp.seek, (0x40 : Byte)), (.xread, .read, 0x41), (.xwrite, .write, 0x42)]

theorem wellFormed_start {i : Instr} {op : XOp} {code : Byte} (m : StartCommand i op code) : i.wellFormed = true := by
  simp only [List.mem_cons, List.not_mem_nil, or_false, Prod.mk.injEq] at m
  obtain ⟨rfl, -, -⟩ | ⟨rfl, -, -⟩ | ⟨rfl, -, -⟩ := m <;> rfl

/-- What a start command sends: the cylinder and the seek byte (R104). -/
def startSends (h : HostRegs) : List (Byte × Byte) := [(0x00, h.cylLo), (0x03, seekByte h.restore)]

/-- `s` to `t` is a start command of the operation `op` that is not refused. -/
structure Starts (op : XOp) (s t : State) : Prop where
  step : step s = .next t
  sends : Sends (startSends s.h) s t
  st : t.st = .seekIssued
  wcnt : t.wcnt = 0
  latches : t.x = s.h.latch op

theorem starts_of_event {i : Instr} {op : XOp} {code : Byte} {s : State} {es : List Event}
    (m : StartCommand i op code) (nb : s.busy = false)
    (ev : s.events = .host (regByte (encode i)) (dataByte (encode i)) :: es)
    (hp : ∃ p, controllerReply s 0 0x00 s.h.cylLo = some p)
    (hq : ∃ q, controllerReply s 1 0x03 (seekByte s.h.restore) = some q) : ∃ t, Starts op s t ∧ t.events = es := by
  obtain ⟨p, hp⟩ := hp
  obtain ⟨q, hq⟩ := hq
  have decoded := (step_of_host ev).trans (congrArg (exec · _) (decodeXact_encode (wellFormed_start m)))
  have accepted := (exec_start m _).1.trans (whenNotBusy_of_not_busy (s := storeCmd code { s with events := es }) nb _)
  have runs := (decoded.trans accepted).trans
    (startXfer_of_replies (s := storeCmd code { s with events := es }) hp hq)
  have issues := (issues_start (s := { s with events := es }) (op := op) (code := code) hp hq).of_events
  exact ⟨_, ⟨runs, issues.sends, rfl, rfl, rfl⟩, rfl⟩

/-- A run after a start command: one step more. -/
theorem Starts.run {op : XOp} {s t : State} (h : Starts op s t) (n : Nat) :
    Host.Core.run Sys2Proof.core (n + 1) s = Host.Core.run Sys2Proof.core n t :=
  core_run_of_step h.step

/-- The answers after a start command are those from number 2 on. -/
theorem Starts.reply {op : XOp} {s t : State} (h : Starts op s t) (k : Nat) (r d : Byte) :
    controllerReply t k r d = controllerReply s (2 + k) r d := h.sends.reply k r d

theorem driveReady_ends {s : State} {es : List Event} (h : s.st = .driveReady) (o : s.x.xop = .seek)
    (ev : s.events = .tick :: es) : ∃ t, BusyRun 1 [] s t ∧ t.st = .done := by
  have b : s.busy = true := by rw [State.busy, h]; rfl
  exact ⟨_, busyRun_of_tickCase (t := { s with events := es, st := .done }) b ev (.seekEnds h o rfl)
    (.none rfl rfl rfl), rfl⟩

theorem driveReady_issues {s : State} {es : List Event} {p q u : Byte} (h : s.st = .driveReady) (o : s.x.xop ≠ .seek)
    (ev : s.events = .tick :: es) (a : controllerReply s 0 0x01 s.x.xhead = some p)
    (b : controllerReply s 1 0x02 s.x.xsec = some q)
    (c : controllerReply s 2 0x03 (transferByte s.x.xop) = some u) :
    ∃ t, BusyRun 1 [(0x01, s.x.xhead), (0x02, s.x.xsec), (0x03, transferByte s.x.xop)] s t ∧
      t.st = .commandIssued ∧ t.wcnt = 0 := by
  have busy : s.busy = true := by rw [State.busy, h]; rfl
  have issues := (issues_command (s := { s with events := es }) a b c).of_events
  exact ⟨_, busyRun_of_tickCase busy ev (.issues p q u h o a b c rfl) issues, rfl, rfl⟩

/-! A seek that is never accepted. -/

theorem toNat_effectiveBudget (t : Word) : (effectiveBudget t).toNat = if t = 0#16 then 1 else t.toNat := by
  rw [effectiveBudget_eq]
  exact apply_ite BitVec.toNat ..

theorem mem_starts {i : Instr} (m : i ∈ [Instr.xseek, .xread, .xwrite]) :
    ∃ op code, StartCommand i op code := by
  simp only [List.mem_cons, List.not_mem_nil, or_false] at m
  obtain rfl | rfl | rfl := m
  · exact ⟨.seek, 0x40, by decide⟩
  · exact ⟨.read, 0x41, by decide⟩
  · exact ⟨.write, 0x42, by decide⟩

/-- Settles O47: the start command, and then the stage of Status1 to its timeout. -/
theorem seekNeverAcceptedAbortsAfterXt1Ticks : Obligations.SeekNeverAcceptedAbortsAfterXt1Ticks := by
  intro i s es n m nb hn ev seek hp hq fails clear
  obtain ⟨op, code, m⟩ := mem_starts m
  have hseek : seek = seekByte s.h.restore := (seekByte_eq _).symm
  obtain ⟨t, start, left⟩ := starts_of_event m nb ev hp (hseek ▸ hq)
  have w : t.st.waits = true := by rw [start.st]; rfl
  have budget : t.x.budget t.st = effectiveBudget (s.h.t1Hi ++ s.h.t1Lo) := by rw [start.st, start.latches]; rfl
  have size : n = (t.x.budget t.st).toNat := by rw [budget, toNat_effectiveBudget]; exact hn
  have pos : 0 < n := by
    have := one_le_effectiveBudget (s.h.t1Hi ++ s.h.t1Lo)
    rw [size, budget]
    bv_omega
  have zero : t.wcnt.toNat = 0 := by rw [start.wcnt]; rfl
  have polls : ∀ j, j < n → ∃ v, controllerReply t j t.st.pollReg 0x00 = some v ∧ t.x.awaited t.st v = false := by
    rw [start.st]
    exact fun j hj => start.reply j .. ▸ fails j hj
  obtain ⟨p, clear⟩ := clear
  refine ⟨?_, ?_⟩
  · obtain ⟨u, run, st, count⟩ := stage_fails w (left.trans (ticks_split (Nat.sub_le n 1) es)) (by omega)
      fun j hj => polls j (by omega)
    have steps : n = (n - 1) + 1 := by omega
    refine ⟨u, ?_, st.trans start.st, by omega⟩
    rw [steps, start.run]
    exact run.run
  · obtain ⟨u, run, aborted, reason, count⟩ := stage_aborts w start.wcnt size pos left polls
      ((start.reply n ..).trans clear)
    refine ⟨u, (start.run n).trans run.run, aborted, by rw [reason, start.st]; rfl, by rw [count, size],
      run.events left, ?_⟩
    rw [run.sends.sent, start.sends.sent, start.st, hseek, ← List.append_assoc]
    rfl

/-! A transaction that succeeds. -/

/-- Of the polls of the register `r` from device transaction number `first` on, the one numbered `a` is the first whose
byte `shows` the awaited value. -/
def ShowsOn (s : State) (first : Nat) (r : Byte) (shows : Byte → Bool) (a : Nat) : Prop :=
  ∀ k, k < a → ∃ v, controllerReply s (first + k) r 0x00 = some v ∧ shows v = decide (k + 1 = a)

/-- The two seek stages, which every transaction has. -/
theorem reaches_driveReady {s t : State} {op : XOp} {es : List Event} {a b : Nat} (start : Starts op s t)
    (ha : 1 ≤ a) (hb : 1 ≤ b) (within1 : a ≤ (effectiveBudget (s.h.t1Hi ++ s.h.t1Lo)).toNat)
    (within2 : b ≤ (effectiveBudget (s.h.t2Hi ++ s.h.t2Lo)).toNat)
    (ev : t.events = List.replicate (a + b) .tick ++ es)
    (accepted : ShowsOn s 2 0x80 (·.getLsbD 6) a) (ready : ShowsOn s (2 + a) 0x81 (·.getLsbD 0) b) :
    ∃ u, BusyRun (a + b) (List.replicate a (0x80, 0x00) ++ List.replicate b (0x81, 0x00)) t u ∧ u.st = .driveReady := by
  have ev1 : t.events = List.replicate a .tick ++ (List.replicate b .tick ++ es) := by
    rw [ev, ← List.append_assoc, List.replicate_append_replicate]
  obtain ⟨u, run1, st1, zero⟩ := stage_succeedsOn (s := t) (es := List.replicate b .tick ++ es) (a := a)
    (by rw [start.st]; rfl) start.wcnt ha (by rw [start.st, start.latches]; exact within1) ev1 (by
      rw [start.st]
      exact fun j hj => start.reply j .. ▸ accepted j hj)
  have accepted_st : u.st = .addrAccepted := by rw [st1, start.st]; rfl
  have latches : u.x = s.h.latch op := run1.latches.trans start.latches
  obtain ⟨v, run2, st2, -⟩ := stage_succeedsOn (s := u) (es := es) (a := b) (by rw [accepted_st]; rfl) (zero start.st)
    hb (by rw [accepted_st, latches]; exact within2) (run1.events ev1) (by
      rw [accepted_st]
      intro j hj
      obtain ⟨v, r, shows⟩ := ready j hj
      refine ⟨v, ?_, shows⟩
      rw [run1.reply, start.reply, ← Nat.add_assoc]
      exact r)
  rw [start.st] at run1
  rw [accepted_st] at run2
  exact ⟨v, run1.trans run2, by rw [st2, accepted_st]; rfl⟩

/-- A start command and the busy run after it: busy from the first step to the last, and what was sent in all. -/
theorem Starts.followed {op : XOp} {s t u : State} {n : Nat} {new : List (Byte × Byte)} (h : Starts op s t)
    (run : BusyRun n new t u) :
    (∀ m, 1 ≤ m → m < 1 + n → ∃ v, Host.Core.run Sys2Proof.core m s = .next v ∧ v.busy = true) ∧
    Host.Core.run Sys2Proof.core (1 + n) s = .next u ∧ u.sent = s.sent ++ startSends s.h ++ new := by
  refine ⟨fun m pos small => ?_, ?_, ?_⟩
  · obtain ⟨v, runs, b⟩ := run.busy (m - 1) (by omega)
    have steps : m = (m - 1) + 1 := by omega
    refine ⟨v, ?_, b⟩
    rw [steps, h.run]
    exact runs
  · rw [Nat.add_comm, h.run]
    exact run.run
  · rw [run.sends.sent, h.sends.sent]

/-- Settles O49: the two seek stages and the TICK that ends the transaction. -/
theorem seekSucceedsOnTickAB : Obligations.SeekSucceedsOnTickAB := by
  intro s es a b nb ha hb within1 within2 ev seek hp hq accepted ready
  have hseek : seek = seekByte s.h.restore := (seekByte_eq _).symm
  have command : StartCommand .xseek .seek 0x40 := by decide
  obtain ⟨t, start, left⟩ := starts_of_event command nb ev hp (hseek ▸ hq)
  have ev1 := left.trans (ticks_succ (a + b) es)
  obtain ⟨u, run, st⟩ := reaches_driveReady start ha hb within1 within2 ev1 accepted ready
  have op : u.x.xop = .seek := by rw [run.latches, start.latches]; rfl
  obtain ⟨v, last, done⟩ := driveReady_ends st op (run.events ev1)
  have whole := run.trans last
  obtain ⟨busy, runs, sent⟩ := start.followed whole
  refine ⟨busy, v, runs, done, whole.events left, ?_⟩
  simp only [sent, startSends, hseek, List.append_nil, List.append_assoc]

/-- The completion stage, from the TICK that issues the command on. -/
theorem reaches_done {s t u : State} {op : XOp} {es : List Event} {n c : Nat} {new : List (Byte × Byte)}
    (start : Starts op s t) (run : BusyRun n new t u) (st : u.st = .driveReady) (o : op ≠ .seek)
    (hc : 1 ≤ c) (within : c ≤ (effectiveBudget (s.h.t3Hi ++ s.h.t3Lo)).toNat)
    (ev : u.events = .tick :: (List.replicate c .tick ++ es))
    (h0 : ∃ p, controllerReply s (2 + new.length) 0x01 s.h.head = some p)
    (h1 : ∃ p, controllerReply s (2 + new.length + 1) 0x02 s.h.sector = some p)
    (h2 : ∃ p, controllerReply s (2 + new.length + 2) 0x03 (transferByte op) = some p)
    (ends : ShowsOn s (2 + new.length + 3) 0x81 (fun v => !completionBit op v) c) :
    ∃ v, BusyRun (1 + c) ([(0x01, s.h.head), (0x02, s.h.sector), (0x03, transferByte op)] ++
      List.replicate c (0x81, 0x00)) u v ∧ v.st = .done := by
  have reply (k : Nat) (r d : Byte) : controllerReply u k r d = controllerReply s (2 + new.length + k) r d := by
    rw [run.sends.reply, start.reply, Nat.add_assoc]
  have latches : u.x = s.h.latch op := run.latches.trans start.latches
  obtain ⟨p, h0⟩ := h0
  obtain ⟨q, h1⟩ := h1
  obtain ⟨r, h2⟩ := h2
  obtain ⟨v, issue, issued, zero⟩ := driveReady_issues (s := u) (p := p) (q := q) (u := r) st (by rw [latches]; exact o)
    ev (by rw [reply, latches]; exact h0) (by rw [reply, latches]; exact h1) (by rw [reply, latches]; exact h2)
  have latches' : v.x = s.h.latch op := issue.latches.trans latches
  obtain ⟨w, polls, done, -⟩ := stage_succeedsOn (s := v) (es := es) (a := c) (by rw [issued]; rfl) zero hc
    (by rw [issued, latches']; exact within) (issue.events (n := 1) ev) (by
      rw [issued, latches']
      intro j hj
      obtain ⟨b, r, shows⟩ := ends j hj
      refine ⟨b, ?_, shows⟩
      rw [issue.sends.reply, reply, ← Nat.add_assoc]
      exact r)
  rw [issued] at polls
  rw [latches] at issue
  exact ⟨w, issue.trans polls, by rw [done, issued]; rfl⟩

/-- READ and WRITE with their command bytes and in-progress flags (R108, R109). -/
theorem transfer_of_mem {i : Instr} {c0 : Byte} {bit : Nat}
    (m : (i, c0, bit) ∈ [(Instr.xread, (0x02 : Byte), 6), (.xwrite, 0x04, 7)]) :
    ∃ op code, StartCommand i op code ∧ op ≠ .seek ∧ c0 = transferByte op ∧
      ∀ v : Byte, v.getLsbD bit = completionBit op v := by
  simp only [List.mem_cons, List.not_mem_nil, or_false, Prod.mk.injEq] at m
  obtain ⟨rfl, rfl, rfl⟩ | ⟨rfl, rfl, rfl⟩ := m
  · exact ⟨.read, 0x41, by decide, nofun, rfl, fun _ => rfl⟩
  · exact ⟨.write, 0x42, by decide, nofun, rfl, fun _ => rfl⟩

/-- Settles O48: the two seek stages, the TICK that issues the command, and the completion stage. -/
theorem transferSucceedsOnTickABC : Obligations.TransferSucceedsOnTickABC := by
  intro i c0 bit s es a b c m nb ha hb hc within1 within2 within3 ev seek hp hq accepted ready h0 h1 h2 ends
  obtain ⟨op, code, starts, o, rfl, flag⟩ := transfer_of_mem m
  have hseek : seek = seekByte s.h.restore := (seekByte_eq _).symm
  obtain ⟨t, start, left⟩ := starts_of_event starts nb ev hp (hseek ▸ hq)
  have ev1 : t.events = List.replicate (a + b) .tick ++ (.tick :: (List.replicate c .tick ++ es)) := by
    rw [left, ← ticks_succ, ← List.append_assoc, List.replicate_append_replicate]
  obtain ⟨u, run, st⟩ := reaches_driveReady start ha hb within1 within2 ev1 accepted ready
  have sent : (List.replicate a ((0x80 : Byte), (0x00 : Byte)) ++ List.replicate b (0x81, 0x00)).length = a + b := by
    rw [List.length_append, List.length_replicate, List.length_replicate]
  have completes : ShowsOn s (2 + (a + b) + 3) 0x81 (fun v => !completionBit op v) c := fun k hk => by
    obtain ⟨v, r, shows⟩ := ends k hk
    have clear : (!completionBit op v) = decide (k + 1 = c) := by rw [← flag, shows, Bool.not_not]
    exact ⟨v, Nat.add_assoc 2 a b ▸ r, clear⟩
  rw [Nat.add_assoc 2 a b] at h0 h1 h2
  obtain ⟨v, last, done⟩ := reaches_done start run st o hc within3 (run.events ev1) (sent.symm ▸ h0) (sent.symm ▸ h1)
    (sent.symm ▸ h2) (sent.symm ▸ completes)
  have whole := run.trans last
  rw [← Nat.add_assoc] at whole
  obtain ⟨busy, runs, sent⟩ := start.followed whole
  refine ⟨busy, v, runs, done, whole.events left, ?_⟩
  simp only [sent, startSends, hseek, List.append_assoc]

end Sys2Proof.Machine
end
